-- ==== Sys2Proof/Word.lean ====
section
/-! DEFINITION. The words of the BT-61: what the manual numbers in bits. -/

namespace Sys2Proof

/-- One byte of a frame payload or of the configuration image (formats section, 11.7). -/
abbrev Byte := BitVec 8

/-- A two-byte field of a frame or of the image. -/
abbrev Half := BitVec 16

/-- A pulse count, an admission mark, an eye mark or a pulse offset: 24 bits, wrapping (R1, R12, R191). -/
abbrev Pulse := BitVec 24

/-- A ticket number, 16 bits; 0 means none (R15). -/
abbrev Ticket := BitVec 16

/-- A sale number, 16 bits; 0 is never issued (R128). -/
abbrev SaleNo := BitVec 16

/-- A set of service codes 0 to 15, code c in bit c (11.7). -/
abbrev ServiceSet := BitVec 16

/-- A set of cause ranks 1 to 17, rank k in bit k - 1 (R84, 11.7). -/
abbrev CauseSet := BitVec 17

/-- The 5-bit origin of a frame (R165). -/
abbrev Origin := BitVec 5

/-- A field output channel or a per-channel input, numbered from 0 here and from 1 in the manual (R208). -/
abbrev ChannelNo := Fin 4

/-- The bytes the configuration memory holds from address 0 on, as many as the longest image (R201). -/
abbrev ImageBytes := Vector Byte 220

end Sys2Proof
end

