-- ==== Sys2Proof/Syntax.lean ====
section
/-! DEFINITION. The commands of the BT-61: one constructor for each row of spec/opcode_table.json, with its operands.
The fields of a frame command are the fields of its payload, each at the width the formats section (11.7) gives it, so
that a field value out of its range can be sent. -/

namespace Sys2Proof

/-- A pay lane (R149). -/
inductive Lane where
  | a
  | b
  deriving DecidableEq, Repr

/-- A debounced field input (R207). -/
inductive InputPin where
  | eye
  | estop
  | pause
  | resumeKey
  | chemLow
  | freeze
  | presA
  | presB
  deriving DecidableEq, Repr

/-- The commands: what the outside can do to the part, and the events its clock and its line bring. -/
inductive Instr where
  -- supply and start (R200, R204)
  | powerOnReset
  | lossOfSupply
  | loadingEnd (image : ImageBytes)
  -- conveyor and time base (R2, R3, R4)
  | encPulse
  | tick
  | speedWindowEnd
  -- field inputs (R207); `active` and `asserted` name the level the input takes
  | pinLevelChange (pin : InputPin) (active : Bool)
  | eyeBlockEdge
  | eyeClearEdge
  | estopFallingEdge
  | estopRisingEdge
  | pauseInputAsserted
  | pauseInputDeasserted
  | resumeKeyPress
  | chemLowAsserted
  | chemLowDeasserted
  | freezeAsserted
  | freezeDeasserted
  | lanePresenceChange (lane : Lane) (active : Bool)
  | overTempChange (ch : ChannelNo) (asserted : Bool)
  -- service channels (chapter 3)
  | thermalSustainExpiry (ch : ChannelNo)
  | currentSample (ch : ChannelNo) (reading : Byte)
  | holdOffExpiry (ch : ChannelNo)
  | hotTimerExpiry (ch : ChannelNo)
  | idleTimerExpiry (ch : ChannelNo)
  | brushDrivePeriod (ch : ChannelNo)
  | runOnExpiry (ch : ChannelNo)
  -- purge (chapter 4)
  | purgeIntervalExpiry
  | purgeDurationExpiry
  -- halt controller (chapter 5)
  | stopWindowExpiry
  | standbyExpiry
  -- sales and admission (chapters 7 and 8)
  | saleTimeoutExpiry (lane : Lane)
  | callTimeoutExpiry
  | admissionGapExpiry
  -- peers and sync (chapters 10 and 11)
  | beaconPeriodExpiry
  | faultBeaconPeriod
  | joinTimeout
  | syncTimeout
  | syncAnswerStep
  -- frames taken from the line (R167, R169)
  | halt (origin : Origin) (cause grade current : Byte)
  | release (origin : Origin) (cause : Byte)
  | resume (origin : Origin) (target : Byte)
  | clearTrain (origin : Origin) (target : Byte)
  | restart (origin : Origin) (target : Byte)
  | pause (origin : Origin) (target : Byte)
  | unpause (origin : Origin) (target : Byte)
  | hold (origin : Origin) (target : Byte)
  | unhold (origin : Origin) (target : Byte)
  | purge (origin : Origin) (target : Byte)
  | admitCar (origin : Origin) (ticket : Ticket) (delta : Byte) (services : ServiceSet) (intensity lane : Byte)
  | length (origin : Origin) (ticket : Ticket) (len : Half)
  | depart (origin : Origin) (ticket : Ticket) (lost : Byte)
  | flow (origin : Origin) (claim : Byte) (newest : Ticket)
  | report (origin : Origin) (ticket : Ticket) (given missed : ServiceSet)
  | syncReq (origin : Origin) (keeper : Byte)
  | syncCar (origin : Origin) (joiner : Byte) (ticket : Ticket) (front len : Half) (services : ServiceSet) (intensity : Byte)
  | syncEnd (origin : Origin) (joiner count : Byte)
  | quote (origin : Origin) (lane : Byte) (sale : SaleNo) (result : Byte) (subtotal applied due : Half)
  | paid (origin : Origin) (lane : Byte) (sale : SaleNo) (ticket : Ticket) (change : Half)
  | void (origin : Origin) (lane : Byte) (sale : SaleNo) (reason : Byte) (refund : Half)
  | select (origin : Origin) (lane plan addOns tier : Byte) (credit : Ticket)
  | tender (origin : Origin) (lane : Byte) (sale : SaleNo) (amount : Half)
  | cancel (origin : Origin) (lane : Byte) (sale : SaleNo)
  | beacon (origin : Origin) (roleState : Byte) (causes : BitVec 24) (trainCount : Byte) (p : Pulse) (claim : Byte)
      (newest : Ticket) (digest : Half) (inTunnel : Byte)
  | ownOriginFrame
  -- the line port's own attempts (R177 to R181)
  | sendAttemptStart
  | attemptLost
  | attemptFailed
  | attemptSucceeded
  | dominantLineStretch
  deriving DecidableEq, Repr

end Sys2Proof
end

