-- ==== Sys2Proof/Decode.lean ====
section
/-! DEFINITION. The commands that the table gives bits. spec/opcode_table.json gives none of its 70 rows a pattern of bits
(98_reader.md counts no row with fixed bits and none with fields): a command is an event, not a word. How a frame's bits on
the station line become a frame command is in Machine/Line.lean. -/

namespace Sys2Proof

/-- The command a word spells by the table's bits: none, since no row has any. -/
def decodeTableWord (_nbits _w : Nat) : Option Instr := none

end Sys2Proof
end

