-- ==== Sys2Proof/Config.lean ====
section
/-! DEFINITION. What the part fixes for every tunnel, and the one value the manual leaves open. -/

namespace Sys2Proof.Config

/-- The load of the longest pace counter, 0 to 4,194,303 (R7). -/
def paceMax : Nat := 4194303

/-- The highest front position a car can read (R10). -/
def frontMax : Nat := 16383

/-- The capacity of a train (R18). -/
def trainMax : Nat := 24

/-- The capacity of the transmit queue (R172). -/
def queueMax : Nat := 16

/-- The capacity of the credit table (R142). -/
def creditMax : Nat := 32

/-- The capacity of a lane queue (R130, R140). -/
def laneMax : Nat := 4

/-- The highest sum of money a record can hold (Conventions, Units). -/
def moneyMax : Nat := 65535

/-- The age at which a pulse is still recent (R6). -/
def recentAge : Nat := 249

/-- The ticks of a speed window (R4). -/
def speedWindow : Nat := 250

/-- The ticks of a drive period (R57). -/
def drivePeriod : Nat := 8

/-- The consecutive failures that raise LINE_LOST (R179). -/
def failureLimit : Nat := 8

/-- The join time in ticks (R193). -/
def joinTime : Nat := 5000

/-- The sync time in ticks (R194). -/
def syncTime : Nat := 2000

/-- The thermal sustain in ticks (R58). -/
def thermalSustain : Nat := 2000

/-- The current sampling period in ticks (R60). -/
def samplePeriod : Nat := 10

/-- The beacon period of a station in CONFIG_FAULT, in ticks (R205). -/
def faultBeaconPeriod : Nat := 100

/-- FREE VALUE (log entry 4). The place a SYNC_CAR takes in a train that stands so far out of serial order that no place
lies after every older ticket and before every newer one: R197 asks for such a place and states no other. The arguments
are the ticket to be placed and the tickets of the train; the answer is read modulo the number of places. -/
opaque syncPlace : Ticket → List Ticket → Nat

end Sys2Proof.Config
end

