-- ==== Sys2Proof/Machine/State.lean ====
section
/-! DEFINITION. The state of one BT-61 station, block by block as the overview names them, and its value after reset. -/

namespace Sys2Proof.Machine

/-- Why a step may stop with a fault. The manual gives every command an effect in every state of the part (an event that
finds nothing to act on changes nothing), so no meaning raises one: the type has no constructor. -/
inductive Fault where
  deriving DecidableEq, Repr

/-- Why a step may be refused. -/
inductive Refusal where
  /-- Raised by exec's arm of a command that has no meaning yet. Safe: nothing is claimed of the command. No arm of this
  model raises it. -/
  | notModelled (mnemonic : String)
  deriving DecidableEq, Repr

/-! ### Names of the manual -/

/-- The role of a station (overview, Roles). -/
inductive Role where
  | entry
  | drive
  | exit
  | arch
  deriving DecidableEq, Repr

/-- The run state of a station (R106; overview, The station as a whole). -/
inductive RunState where
  | loading
  | configFault
  | joining
  | syncing
  | ready
  | run
  | standby
  deriving DecidableEq, Repr

/-- The seventeen causes, in order of rank (5.1). -/
inductive Cause where
  | estop
  | runaway
  | closing
  | unexpected
  | missing
  | stall
  | overflow
  | silent
  | skew
  | lineLost
  | mismatch
  | startup
  | long
  | opPause
  | hot
  | chemLow
  | opHold
  deriving DecidableEq, Repr

/-- The grade of a cause (5.1). -/
inductive Grade where
  | halt
  | pause
  | hold
  deriving DecidableEq, Repr

/-! ### Pace counters and inputs -/

/-- A pace counter (R7): its state, RUNNING or IDLE, and what remains. Its mode is fixed by its purpose: PULSE for the
admission gap, TIME for every other. -/
structure Pace where
  running : Bool
  remaining : Nat
  /-- The MODEL's own field: the counter has run out and is IDLE again, and its owner has still to take the expiry, in a step of
  its own before anything else that arrives (log entry 1). -/
  expired : Bool
  deriving DecidableEq, Repr

/-- A debounced input (R207): the level its pin stands at, the debounced level (true is the active level) and the counter. -/
structure Debounced where
  pin : Bool
  level : Bool
  counter : Pace
  deriving DecidableEq, Repr

/-- The field inputs (R207). -/
structure Inputs where
  eye : Debounced
  estop : Debounced
  pause : Debounced
  resumeKey : Debounced
  chemLow : Debounced
  freeze : Debounced
  presA : Debounced
  presB : Debounced
  /-- OT1 to OT4, read raw. -/
  overTemp : Vector Bool 4
  deriving DecidableEq, Repr

/-- The pulse counter and speed meter, PC (R1, R4, R6). -/
structure PulseCounter where
  p : Pulse
  v : Nat
  windowCount : Nat
  /-- The ticks of the current speed window so far, at most 250: at 250 its end is due (R4). -/
  windowTicks : Nat
  lastPulseAge : Nat
  deriving DecidableEq, Repr

/-! ### Configuration loader -/

/-- The constants CL draws from a sound image (R203, 11.7); times are in ticks. -/
structure Constants where
  station : Nat
  role : Role
  /-- The eye position; 0 is no eye, or the datum at the ENTRY. -/
  eye : Nat
  budget : Nat
  tolerance : Nat
  gap : Nat
  admissionGap : Nat
  lmax : Nat
  vNom : Nat
  admissionLimit : Nat
  fairness : Nat
  beaconPeriod : Nat
  silentLimit : Nat
  skewLimit : Nat
  stopWindow : Nat
  standbyTime : Nat
  purgeInterval : Nat
  purgeDuration : Nat
  saleTimeout : Nat
  callTimeout : Nat
  /-- The check over the 25 stored bytes of the tunnel-constants section. -/
  digest : Half
  deriving DecidableEq, Repr

/-- The configuration loader, CL, with what CONFIG_FAULT keeps of a faulty image (R205). -/
structure Loader where
  constants : Constants
  faultOrigin : Option Origin
  faultRole : Role
  faultBeacon : Pace
  deriving DecidableEq, Repr

/-! ### Train store -/

/-- The eye status of a car (2.1). -/
inductive EyeStatus where
  | unseenYet
  | passed
  | unseen
  deriving DecidableEq, Repr

/-- The service progress of a car at one channel (3.3). -/
inductive Progress where
  | notOrdered
  | pending
  | active
  | given
  | missed
  deriving DecidableEq, Repr

/-- One entry of a car's service progress list (3.3). -/
structure ProgressEntry where
  value : Progress
  count : Nat
  deriving DecidableEq, Repr

/-- A car record (2.1), with the reported flag of 3.3. -/
structure Car where
  ticket : Ticket
  mark : Pulse
  length : Option Nat
  services : ServiceSet
  intensity : Nat
  eye : EyeStatus
  progress : List ProgressEntry
  reported : Bool
  synced : Bool
  deriving DecidableEq, Repr

/-- The phase of the eye reconciler (R29). -/
inductive EyePhase where
  | clear
  | matched (ticket : Ticket)
  | unmatched
  deriving DecidableEq, Repr

/-- A pending sync answer of a keeper (R195). -/
structure Answer where
  joiner : Nat
  last : Ticket
  count : Nat
  deriving DecidableEq, Repr

/-- The train store, TS: the train, the recent-departed list, the eye reconciler and both sides of sync. -/
structure TrainStore where
  /-- Oldest car (furthest downstream) first (R18). -/
  train : List Car
  /-- Newest last (R26). -/
  recent : List Ticket
  phase : EyePhase
  blockMark : Option Pulse
  lastClear : Option Pulse
  /-- The held flag of the eye (R29, R30). -/
  held : Bool
  sync : Pace
  received : Nat
  /-- The station number of the keeper asked, 0 before any (R194). -/
  keeper : Nat
  answers : List Answer
  /-- The model's own: a tick has been taken with an answer in the list, and the keeper's step at that tick is to come (R196; log
  entry 34). -/
  answerDue : Bool
  syncFailed : Bool
  deriving DecidableEq, Repr

/-! ### Service sequencer -/

/-- The kind of a channel (3.1). -/
inductive ChannelKind where
  | brush
  | spray
  | dryer
  deriving DecidableEq, Repr

/-- A channel record of the image (3.1); times are in ticks. -/
structure ChannelConfig where
  kind : ChannelKind
  code : Nat
  position : Nat
  lead : Nat
  timeTrail : Bool
  trail : Nat
  iIdle : Nat
  iStep : Nat
  margin : Nat
  stallTime : Nat
  holdOff : Nat
  thermalCap : Nat
  hotTime : Nat
  idleTime : Nat
  demand : Nat
  deriving DecidableEq, Repr

/-- The states of a channel of any kind (3.5, 3.6, 3.7). -/
inductive ChannelState where
  | parked
  | ready
  | engaged
  | closed
  | deferred
  | opened
  | purging
  | off
  | running
  | runOn
  | suspended
  deriving DecidableEq, Repr

/-- A service channel (chapter 3). Fields of another kind stand at their creation values. -/
structure Channel where
  cfg : ChannelConfig
  state : ChannelState
  level : Nat
  override : Bool
  recorded : Bool
  overRun : Nat
  runOnCar : Option Ticket
  idle : Pace
  sustain : Pace
  hot : Pace
  holdOff : Pace
  sample : Pace
  runOn : Pace
  /-- The on-time N taken at the start of the drive period (R57). -/
  onTime : Nat
  /-- The ticks of the drive period so far, at most 8: at 8 the next period is due (R57). -/
  drivePhase : Nat
  deriving DecidableEq, Repr

/-! ### Water -/

/-- The flow budget unit, FB (R67). -/
structure FlowBudget where
  claim : Nat
  newest : Ticket
  deriving DecidableEq, Repr

/-- The purge state (R74); FB reads the kind from it (R67). -/
inductive PurgeState where
  | none
  | normal
  | forced
  deriving DecidableEq, Repr

/-- The purge scheduler, PS (R74). -/
structure PurgeScheduler where
  debt : Nat
  request : Bool
  interval : Pace
  duration : Pace
  purge : PurgeState
  deriving DecidableEq, Repr

/-! ### Halt controller and peers -/

/-- The halt controller, HC: the own set, its two counters and the run state. The peers' sets are in the peer records. -/
structure HaltController where
  own : CauseSet
  stop : Pace
  standby : Pace
  runState : RunState
  deriving DecidableEq, Repr

/-- A peer record (R183). -/
structure Peer where
  station : Nat
  role : Role
  heard : Bool
  age : Nat
  reported : Option RunState
  causes : CauseSet
  claim : Nat
  newest : Ticket
  trainCount : Option Nat
  lastP : Option Pulse
  offset : Option Pulse
  deriving DecidableEq, Repr

/-- The kind of a non-station peer (R184). -/
inductive OtherKind where
  | kioskA
  | kioskB
  | console
  deriving DecidableEq, Repr

/-- The record of a non-station peer (R184). -/
structure OtherPeer where
  origin : Origin
  kind : OtherKind
  deriving DecidableEq, Repr

/-- The peer table, PT (R183, R184, R185, R193). -/
structure PeerTable where
  peers : List Peer
  others : List OtherPeer
  beacon : Pace
  join : Pace
  deriving DecidableEq, Repr

/-! ### Sales -/

/-- A plan slot's content (R112). -/
structure Plan where
  price : Nat
  included : ServiceSet
  intensity : Nat
  deriving DecidableEq, Repr

/-- An add-on slot's content (R113); plan n is bit n of the allowed-plan set. -/
structure AddOn where
  price : Nat
  services : ServiceSet
  allowed : BitVec 16
  deriving DecidableEq, Repr

/-- The catalogue (6.1). -/
structure Catalogue where
  /-- Slots 1 to 12. -/
  plans : List (Option Plan)
  /-- Slots 1 to 8. -/
  addOns : List (Option AddOn)
  /-- Service values of codes 0 to 15. -/
  values : List Nat
  /-- Discount percentages of tiers 0 to 3. -/
  tiers : List Nat
  /-- The rounding unit. -/
  rounding : Nat
  deriving DecidableEq, Repr

/-- The states of a sale SU keeps (7.1); a VOID or ABANDONED sale has left its keeping. -/
inductive SaleState where
  | priced
  | paid
  | called
  deriving DecidableEq, Repr

/-- A sale record (7.1); its lane is the lane it stands at. -/
structure Sale where
  number : SaleNo
  creditTicket : Ticket
  applied : Nat
  creditCap : Nat
  subtotal : Nat
  net : Nat
  due : Nat
  services : ServiceSet
  intensity : Nat
  tendered : Nat
  change : Nat
  ticket : Ticket
  callTimeouts : Nat
  state : SaleState
  deriving DecidableEq, Repr

/-- A pending VOID answer with reason RESTART (R147). -/
structure PendingVoid where
  sale : SaleNo
  refund : Nat
  deriving DecidableEq, Repr

/-- What SU keeps for one lane: the open sale, its timeout, the lane queue (head first) and a pending answer. -/
structure LaneSales where
  openSale : Option Sale
  timeout : Pace
  queue : List Sale
  pendingVoid : Option PendingVoid
  deriving DecidableEq, Repr

/-- A credit entry (7.3). -/
structure Credit where
  ticket : Ticket
  cap : Nat
  credited : ServiceSet
  amount : Nat
  /-- The state: true is OPEN, false is REDEEMABLE. -/
  isOpen : Bool
  deriving DecidableEq, Repr

/-- The sales unit, SU (R128). -/
structure SalesUnit where
  catalogue : Catalogue
  laneA : LaneSales
  laneB : LaneSales
  lastSale : SaleNo
  lastTicket : Ticket
  credits : List Credit
  deriving DecidableEq, Repr

/-! ### Admission -/

/-- The entering record (R148). -/
structure Entering where
  ticket : Ticket
  lane : Lane
  entryMark : Pulse
  deriving DecidableEq, Repr

/-- The gate state (8.1), with the lane called and the entering record where the state has them. -/
inductive Gate where
  | shut
  | calling (lane : Lane)
  | entering (record : Entering)
  | spacing
  deriving DecidableEq, Repr

/-- The admission controller, AC (R148); the entry eye's debounced level is the EYE input's. -/
structure Admission where
  gate : Gate
  turn : Lane
  skipA : Nat
  skipB : Nat
  callTimeout : Pace
  gap : Pace
  /-- The admission limit in force (R161). -/
  limit : Nat
  deriving DecidableEq, Repr

/-! ### Line port -/

/-- A frame of each of the eighteen kinds with its payload fields (R169, 11.7). -/
inductive Frame where
  | halt (cause grade current : Byte)
  | release (cause : Byte)
  | command (code target : Byte)
  | admitCar (ticket : Ticket) (delta : Byte) (services : ServiceSet) (intensity lane : Byte)
  | length (ticket : Ticket) (len : Half)
  | depart (ticket : Ticket) (lost : Byte)
  | flow (claim : Byte) (newest : Ticket)
  | report (ticket : Ticket) (given missed : ServiceSet)
  | syncReq (keeper : Byte)
  | syncCar (joiner : Byte) (ticket : Ticket) (front len : Half) (services : ServiceSet) (intensity : Byte)
  | syncEnd (joiner count : Byte)
  | quote (lane : Byte) (sale : SaleNo) (result : Byte) (subtotal applied due : Half)
  | paid (lane : Byte) (sale : SaleNo) (ticket : Ticket) (change : Half)
  | void (lane : Byte) (sale : SaleNo) (reason : Byte) (refund : Half)
  | select (lane plan addOns tier : Byte) (credit : Ticket)
  | tender (lane : Byte) (sale : SaleNo) (amount : Half)
  | cancel (lane : Byte) (sale : SaleNo)
  | beacon (roleState : Byte) (causes : BitVec 24) (trainCount : Byte) (p : Pulse) (claim : Byte) (newest : Ticket)
      (digest : Half) (inTunnel : Byte)
  deriving DecidableEq, Repr

/-- A frame of the transmit queue; an ADMIT keeps its car's entry mark beside it (R157). -/
structure Queued where
  frame : Frame
  entryMark : Option Pulse
  deriving DecidableEq, Repr

/-- The line port, LP: the frame in hand, the waiting frames (head first) and the failure count (R172, R179). -/
structure LinePort where
  inHand : Option Queued
  waiting : List Queued
  failures : Nat
  deriving DecidableEq, Repr

/-! ### The station -/

/-- The state of the station, and the queue of the commands that wait to be taken. -/
structure State where
  /-- Power-on reset holds the part (R200). -/
  inReset : Bool
  inputs : Inputs
  pc : PulseCounter
  cl : Loader
  ts : TrainStore
  ss : List Channel
  fb : FlowBudget
  ps : PurgeScheduler
  hc : HaltController
  pt : PeerTable
  su : SalesUnit
  ac : Admission
  lp : LinePort
  /-- The MODEL's own field: the commands waiting, first in, first out. -/
  pending : List Instr
  deriving DecidableEq, Repr

/-! ### Values after power-on reset (R200) -/

/-- An IDLE counter with nothing remaining (R7). -/
def Pace.idle : Pace := ⟨false, 0, false⟩

/-- A counter that has run out (R8): IDLE again, its expiry on the way to its owner (log entry 1). -/
def Pace.out : Pace := ⟨false, 0, true⟩

/-- An input at its inactive level, its counter IDLE (R207). -/
def Debounced.inactive : Debounced := ⟨false, false, Pace.idle⟩

/-- Every input inactive (R200, R207). -/
def Inputs.reset : Inputs where
  eye := Debounced.inactive
  estop := Debounced.inactive
  pause := Debounced.inactive
  resumeKey := Debounced.inactive
  chemLow := Debounced.inactive
  freeze := Debounced.inactive
  presA := Debounced.inactive
  presB := Debounced.inactive
  overTemp := #v[false, false, false, false]

/-- PC after reset (the table of 1.3). -/
def PulseCounter.reset : PulseCounter where
  p := 0
  v := 0
  windowCount := 0
  windowTicks := 0
  lastPulseAge := 65535

/-- The constants before any image is loaded: DESIGN CHOICE, unsafe (log entry 2); no rule reads them before LOADING ends. -/
def Constants.unloaded : Constants where
  station := 0
  role := .arch
  eye := 0
  budget := 0
  tolerance := 0
  gap := 0
  admissionGap := 0
  lmax := 0
  vNom := 0
  admissionLimit := 0
  fairness := 0
  beaconPeriod := 0
  silentLimit := 0
  skewLimit := 0
  stopWindow := 0
  standbyTime := 0
  purgeInterval := 0
  purgeDuration := 0
  saleTimeout := 0
  callTimeout := 0
  digest := 0

/-- CL after reset; the fault fields have no value of the manual's (log entry 2). -/
def Loader.reset : Loader where
  constants := Constants.unloaded
  faultOrigin := none
  faultRole := .arch
  faultBeacon := Pace.idle

/-- TS after reset (R18, R26, R29, R194, R195, R199). -/
def TrainStore.reset : TrainStore where
  train := []
  recent := []
  phase := .clear
  blockMark := none
  lastClear := none
  held := true
  sync := Pace.idle
  received := 0
  keeper := 0
  answers := []
  answerDue := false
  syncFailed := false

/-- FB after reset (R67). -/
def FlowBudget.reset : FlowBudget := ⟨0, 0⟩

/-- PS after reset (R74). -/
def PurgeScheduler.reset : PurgeScheduler := ⟨0, false, Pace.idle, Pace.idle, .none⟩

/-- The set holding STARTUP alone, rank 12. -/
def startupOnly : CauseSet := 0x800

/-- HC after reset: LOADING, whose entry adds STARTUP to the empty own set (R85, R95, R106, R107). -/
def HaltController.reset : HaltController where
  own := startupOnly
  stop := Pace.idle
  standby := Pace.idle
  runState := .loading

/-- PT after reset: no record (R183, R184, R185, R193). -/
def PeerTable.reset : PeerTable := ⟨[], [], Pace.idle, Pace.idle⟩

/-- An empty catalogue (R111), with the rounding unit at its least value (log entry 2). -/
def Catalogue.empty : Catalogue := ⟨[], [], [], [], 1⟩

/-- A lane with no sale (R128). -/
def LaneSales.reset : LaneSales := ⟨none, Pace.idle, [], none⟩

/-- SU after power-on reset (R128, R142, R147). -/
def SalesUnit.reset : SalesUnit where
  catalogue := Catalogue.empty
  laneA := LaneSales.reset
  laneB := LaneSales.reset
  lastSale := 0
  lastTicket := 0
  credits := []

/-- AC after reset (R148); the limit in force has no value before LOADING ends (log entry 2). -/
def Admission.reset : Admission where
  gate := .shut
  turn := .a
  skipA := 0
  skipB := 0
  callTimeout := Pace.idle
  gap := Pace.idle
  limit := 0

/-- LP after reset (R172, R179). -/
def LinePort.reset : LinePort := ⟨none, [], 0⟩

/-- The station at the end of power-on reset: every block at its reset value, in LOADING with STARTUP held, and no command
waiting (R200). -/
def State.reset : State where
  inReset := false
  inputs := Inputs.reset
  pc := PulseCounter.reset
  cl := Loader.reset
  ts := TrainStore.reset
  ss := []
  fb := FlowBudget.reset
  ps := PurgeScheduler.reset
  hc := HaltController.reset
  pt := PeerTable.reset
  su := SalesUnit.reset
  ac := Admission.reset
  lp := LinePort.reset
  pending := []

/-! ### Writing one block -/

/-- The state with the input levels replaced. -/
def State.setInputs (s : State) (x : Inputs) : State := { s with inputs := x }
/-- The state with PC replaced. -/
def State.setPc (s : State) (x : PulseCounter) : State := { s with pc := x }
/-- The state with CL replaced. -/
def State.setCl (s : State) (x : Loader) : State := { s with cl := x }
/-- The state with TS replaced. -/
def State.setTs (s : State) (x : TrainStore) : State := { s with ts := x }
/-- The state with the channels of SS replaced. -/
def State.setSs (s : State) (x : List Channel) : State := { s with ss := x }
/-- The state with FB replaced. -/
def State.setFb (s : State) (x : FlowBudget) : State := { s with fb := x }
/-- The state with PS replaced. -/
def State.setPs (s : State) (x : PurgeScheduler) : State := { s with ps := x }
/-- The state with HC replaced. -/
def State.setHc (s : State) (x : HaltController) : State := { s with hc := x }
/-- The state with PT replaced. -/
def State.setPt (s : State) (x : PeerTable) : State := { s with pt := x }
/-- The state with SU replaced. -/
def State.setSu (s : State) (x : SalesUnit) : State := { s with su := x }
/-- The state with AC replaced. -/
def State.setAc (s : State) (x : Admission) : State := { s with ac := x }
/-- The state with LP replaced. -/
def State.setLp (s : State) (x : LinePort) : State := { s with lp := x }
/-- The state with the queue of waiting commands replaced. -/
def State.setPending (s : State) (x : List Instr) : State := { s with pending := x }

end Sys2Proof.Machine
end

