-- ==== Sys2Proof/Machine/Ops.lean ====
section
/-! DEFINITION. The shared operations: pace counters, serial order of tickets, positions, access to one lane, one input, one
channel and one peer. -/

namespace Sys2Proof.Machine

open Sys2Proof

/-! ### Pace counters (1.4) -/

/-- A load of n (R7): RUNNING with n, or 4,194,303 if n is larger, whatever the counter's state before. A load of 0 expires at
once, in the load's own action; the two owners whose n may be 0 say so themselves (R44, R61). -/
def Pace.load (n : Nat) : Pace := if n = 0 then Pace.out else ⟨true, min n Config.paceMax, false⟩

/-- A counting event of the counter's mode (R8): a RUNNING counter loses one, and at 0 it returns to IDLE and delivers its
expiry; an IDLE counter ignores it. -/
def Pace.count (c : Pace) : Pace :=
  if c.running then (if c.remaining ≤ 1 then Pace.out else { c with remaining := c.remaining - 1 }) else c

/-- The expiry of a counter has been delivered and its owner has still to take it (R8; log entry 1). -/
def Pace.ranOut (c : Pace) : Bool := c.expired

/-- The interval of a counter is not over for its owner: the counter is RUNNING, or its expiry is still to be taken. -/
def Pace.lasts (c : Pace) : Bool := c.running || c.expired

/-! ### Serial order of tickets (1.6) -/

/-- Ticket a is older than ticket b (R16). -/
def ticketOlder (a b : Ticket) : Bool :=
  a ≠ 0 && b ≠ 0 && decide (1 ≤ (b - a).toNat) && decide ((b - a).toNat ≤ 32767)

/-- The ticket that follows t (R15); 1 follows 0, the value before any issue (R128). -/
def nextTicket (t : Ticket) : Ticket := if t + 1 = 0 then 1 else t + 1

/-- The newest ticket of a set (R17): the member newer than every other, the greatest where there is none, 0 for no member. -/
def newestOf (tickets : List Ticket) : Ticket :=
  let ns := tickets.filter (· ≠ 0)
  match ns.find? (fun a => ns.all (fun b => b == a || ticketOlder b a)) with
  | some a => a
  | none => ns.foldl (fun m t => if m.toNat < t.toNat then t else m) 0

/-- The oldest ticket of a set (R17): the member older than every other, the least where there is none, 0 for no member. -/
def oldestOf (tickets : List Ticket) : Ticket :=
  let ns := tickets.filter (· ≠ 0)
  match ns.find? (fun a => ns.all (fun b => b == a || ticketOlder a b)) with
  | some a => a
  | none => ns.foldl (fun m t => if m = 0 || t.toNat < m.toNat then t else m) 0

/-- The next sale number: the last plus 1, or 1 after 65,535 (R128). -/
def nextSale (n : SaleNo) : SaleNo := if n + 1 = 0 then 1 else n + 1

/-! ### Positions (1.5) -/

/-- The front position that a mark gives at pulse count p (R10). -/
def frontAt (p mark : Pulse) : Nat := min (p - mark).toNat Config.frontMax

/-- The mark that sets a front to x at pulse count p (R12). -/
def markAt (p : Pulse) (x : Nat) : Pulse := p - BitVec.ofNat 24 (min x Config.frontMax)

/-- The front position of a car (R10). -/
def Car.front (c : Car) (p : Pulse) : Nat := frontAt p c.mark

/-- The length that a car counts with: its own, or Lmax while absent (R11). -/
def Car.span (c : Car) (lmax : Nat) : Nat := c.length.getD lmax

/-- The rear position of a car (R11). -/
def Car.rear (c : Car) (p : Pulse) (lmax : Nat) : Int := (c.front p : Int) - (c.span lmax : Int)

/-- The car with its front set to x (R12). -/
def Car.setFront (c : Car) (p : Pulse) (x : Nat) : Car := { c with mark := markAt p x }

/-- The signed 24-bit reading of a difference of pulse counts (R192; Conventions). -/
def skewOf (own peer offset : Pulse) : Int := (own - peer - offset).toInt

/-! ### Numbers -/

/-- x clamped to lo to hi (Conventions, Saturation and clamping). -/
def clamp (lo hi x : Nat) : Nat := if x < lo then lo else if hi < x then hi else x

/-- The distance between two positions. -/
def distance (x y : Nat) : Nat := if x ≤ y then y - x else x - y

/-- A sum of money, saturating (R120, R133). -/
def satMoney (n : Nat) : Nat := min n Config.moneyMax

/-! ### One lane -/

/-- The other lane. -/
def otherLane : Lane → Lane
  | .a => .b
  | .b => .a

/-- The line coding of a lane: 1 A, 2 B (11.7). -/
def laneCode : Lane → Byte
  | .a => 1
  | .b => 2

/-- What SU keeps for a lane. -/
def SalesUnit.lane (u : SalesUnit) : Lane → LaneSales
  | .a => u.laneA
  | .b => u.laneB

/-- SU with one lane's part replaced. -/
def SalesUnit.setLane (u : SalesUnit) (l : Lane) (x : LaneSales) : SalesUnit :=
  match l with
  | .a => { u with laneA := x }
  | .b => { u with laneB := x }

/-- The skip counter of a lane (R148). -/
def Admission.skip (c : Admission) : Lane → Nat
  | .a => c.skipA
  | .b => c.skipB

/-- AC with one skip counter replaced. -/
def Admission.setSkip (c : Admission) (l : Lane) (n : Nat) : Admission :=
  match l with
  | .a => { c with skipA := n }
  | .b => { c with skipB := n }

/-! ### One input -/

/-- The debounced input a pin belongs to. -/
def Inputs.get (i : Inputs) : InputPin → Debounced
  | .eye => i.eye
  | .estop => i.estop
  | .pause => i.pause
  | .resumeKey => i.resumeKey
  | .chemLow => i.chemLow
  | .freeze => i.freeze
  | .presA => i.presA
  | .presB => i.presB

/-- The inputs with one replaced. -/
def Inputs.set (i : Inputs) (pin : InputPin) (x : Debounced) : Inputs :=
  match pin with
  | .eye => { i with eye := x }
  | .estop => { i with estop := x }
  | .pause => { i with pause := x }
  | .resumeKey => { i with resumeKey := x }
  | .chemLow => { i with chemLow := x }
  | .freeze => { i with freeze := x }
  | .presA => { i with presA := x }
  | .presB => { i with presB := x }

/-- The edge of an input to a level is due (R207): its counter has run out, its pin stands at the level and the debounced level
does not. -/
def Debounced.due (x : Debounced) (level : Bool) : Bool := x.counter.ranOut && x.pin == level && x.level != level

/-- The debounce time of an input in ticks (the table of R207). -/
def debounceTime : InputPin → Nat
  | .eye => 10
  | .estop => 20
  | .pause => 20
  | .resumeKey => 20
  | .chemLow => 2000
  | .freeze => 2000
  | .presA => 20
  | .presB => 20

/-- The presence input of a lane. -/
def presencePin : Lane → InputPin
  | .a => .presA
  | .b => .presB

/-- The debounced presence level of a lane (R152). -/
def State.presence (s : State) (l : Lane) : Bool := (s.inputs.get (presencePin l)).level

/-! ### The station's condition -/

/-- The state has a field over every other input replaced: one input of s. -/
def State.setInput (s : State) (pin : InputPin) (x : Debounced) : State := s.setInputs (s.inputs.set pin x)

/-- The station is powered and past LOADING, and not in CONFIG_FAULT: "from JOINING on". -/
def State.active (s : State) : Bool :=
  !s.inReset && (match s.hc.runState with
    | .loading => false
    | .configFault => false
    | _ => true)

/-- The station's role, as its image gives it. -/
def State.role (s : State) : Role := s.cl.constants.role

/-- The stationary condition (R5). -/
def State.stationary (s : State) : Bool := s.pc.v == 0

/-- The station has a recent pulse (R6). -/
def State.recentPulse (s : State) : Bool := decide (s.pc.lastPulseAge ≤ Config.recentAge)

/-- The station is a keeper (chapter 10; Terms). -/
def State.keeper (s : State) : Bool := s.role == .drive || s.role == .exit

/-- The origin this station sends under (R165). -/
def State.ownOrigin (s : State) : Origin := BitVec.ofNat 5 s.cl.constants.station

/-- The run state replaced. -/
def State.setRunState (s : State) (r : RunState) : State := s.setHc { s.hc with runState := r }

/-! ### Peers -/

/-- The record of the expected station with a number. -/
def State.peer (s : State) (n : Nat) : Option Peer := s.pt.peers.find? (fun r => r.station == n)

/-- The record of the first expected station with a role; the roles ENTRY, DRIVE and EXIT have one station each (R202). -/
def State.peerOfRole (s : State) (r : Role) : Option Peer := s.pt.peers.find? (fun x => x.role == r)

/-- The origin is that of the other expected station with this role. -/
def State.fromRole (s : State) (o : Origin) (r : Role) : Bool :=
  s.pt.peers.any (fun x => x.station == o.toNat && x.role == r)

/-- Every peer record changed by a function. -/
def State.mapPeers (s : State) (f : Peer → Peer) : State := s.setPt { s.pt with peers := s.pt.peers.map f }

/-- The record of one station changed by a function. -/
def State.updatePeer (s : State) (n : Nat) (f : Peer → Peer) : State :=
  s.mapPeers (fun r => if r.station == n then f r else r)

/-- The non-station origins of a kind (R184). -/
def State.otherOrigin (s : State) (o : Origin) (k : OtherKind) : Bool :=
  s.pt.others.any (fun x => x.origin == o && x.kind == k)

/-- Every pulse offset made absent, to be taken again at each peer's next beacon (R191). -/
def State.rebase (s : State) : State := s.mapPeers (fun r => { r with offset := none })

/-- A record is silent (R189). -/
def Peer.silent (r : Peer) (k : Constants) : Bool := !r.heard || decide (k.silentLimit * k.beaconPeriod < r.age)

/-- Some record is silent (R101, R190). -/
def State.anySilent (s : State) : Bool := s.pt.peers.any (fun r => r.silent s.cl.constants)

/-! ### Channels and cars -/

/-- One channel replaced. -/
def State.setChannel (s : State) (i : Nat) (c : Channel) : State := s.setSs (s.ss.set i c)

/-- The train replaced. -/
def State.setTrain (s : State) (t : List Car) : State := s.setTs { s.ts with train := t }

/-- The car of the train with a ticket. -/
def State.car (s : State) (t : Ticket) : Option Car := s.ts.train.find? (fun c => c.ticket == t)

/-- The train holds a ticket. -/
def State.holds (s : State) (t : Ticket) : Bool := s.ts.train.any (fun c => c.ticket == t)

/-- One car of a train changed by a function. -/
def updateCar (t : Ticket) (f : Car → Car) (cars : List Car) : List Car :=
  cars.map (fun c => if c.ticket == t then f c else c)

end Sys2Proof.Machine
end

