-- ==== Sys2Proof/Machine/Flags.lean ====
section
/-! DEFINITION. Causes, cause sets, the view and its grade (5.1 to 5.3), and the field outputs, each computed from the state
as its rule says it stands (R208). -/

namespace Sys2Proof.Machine

open Sys2Proof

/-! ### Causes (R84) -/

/-- The rank of a cause (the table of 5.1). -/
def Cause.rank : Cause → Nat
  | .estop => 1
  | .runaway => 2
  | .closing => 3
  | .unexpected => 4
  | .missing => 5
  | .stall => 6
  | .overflow => 7
  | .silent => 8
  | .skew => 9
  | .lineLost => 10
  | .mismatch => 11
  | .startup => 12
  | .long => 13
  | .opPause => 14
  | .hot => 15
  | .chemLow => 16
  | .opHold => 17

/-- The grade of a cause (the table of 5.1). -/
def Cause.grade : Cause → Grade
  | .long => .pause
  | .opPause => .pause
  | .hot => .hold
  | .chemLow => .hold
  | .opHold => .hold
  | .estop => .halt
  | .runaway => .halt
  | .closing => .halt
  | .unexpected => .halt
  | .missing => .halt
  | .stall => .halt
  | .overflow => .halt
  | .silent => .halt
  | .skew => .halt
  | .lineLost => .halt
  | .mismatch => .halt
  | .startup => .halt

/-- The line coding of a grade: 1 H, 2 P, 3 D (11.7). -/
def Grade.code : Grade → Byte
  | .halt => 1
  | .pause => 2
  | .hold => 3

/-- Every cause, in order of rank. -/
def allCauses : List Cause :=
  [.estop, .runaway, .closing, .unexpected, .missing, .stall, .overflow, .silent, .skew, .lineLost, .mismatch, .startup,
    .long, .opPause, .hot, .chemLow, .opHold]

/-- The cause a rank on the line identifies, none outside 1 to 17 (R84). -/
def causeOfRank (r : Byte) : Option Cause := allCauses.find? (fun c => c.rank == r.toNat)

/-! ### Cause sets -/

/-- The set of one cause: rank k in bit k - 1 (11.7). -/
def Cause.bit (c : Cause) : CauseSet := BitVec.ofNat 17 (2 ^ (c.rank - 1))

/-- The set holds the cause. -/
def hasCause (x : CauseSet) (c : Cause) : Bool := x.getLsbD (c.rank - 1)

/-- The set with the cause added. -/
def addCause (x : CauseSet) (c : Cause) : CauseSet := x ||| c.bit

/-- The set with the cause removed. -/
def dropCause (x : CauseSet) (c : Cause) : CauseSet := x &&& ~~~ c.bit

/-- The set holds a cause of the grade. -/
def hasGrade (x : CauseSet) (g : Grade) : Bool := allCauses.any (fun c => c.grade == g && hasCause x c)

/-- The grade of a set: that of its highest-graded cause, none when it is empty (R89). -/
def gradeOf (x : CauseSet) : Option Grade :=
  if hasGrade x .halt then some .halt
  else if hasGrade x .pause then some .pause
  else if hasGrade x .hold then some .hold
  else none

/-- The rank of the current cause of a set, 0 when it is empty (R89). -/
def currentRank (x : CauseSet) : Nat :=
  match allCauses.find? (hasCause x) with
  | some c => c.rank
  | none => 0

/-! ### The view (R89) -/

/-- The view: the union of the own set and every peer set. -/
def State.view (s : State) : CauseSet := s.pt.peers.foldl (fun x r => x ||| r.causes) s.hc.own

/-- The grade of the view. -/
def State.grade (s : State) : Option Grade := gradeOf s.view

/-- A grade that stops the conveyor and suspends the channels: H or P. -/
def stopsChain : Option Grade → Bool
  | some .halt => true
  | some .pause => true
  | _ => false

/-- The view holds a cause of grade H or P. -/
def State.halted (s : State) : Bool := stopsChain s.grade

/-- The station holds a cause in its own set. -/
def State.owns (s : State) (c : Cause) : Bool := hasCause s.hc.own c

/-! ### Field outputs (R208) -/

/-- The output pins may be driven: the part is not held in reset, is past LOADING and not in CONFIG_FAULT, and RUNAWAY is
not held (R98, R208). -/
def State.mayDrive (s : State) : Bool := s.active && !s.owns .runaway

/-- The safety-chain output is closed (R99). -/
def State.safeOutput (s : State) : Bool := s.active && !s.owns .runaway

/-- The conveyor run output is on (R91). -/
def State.runOutput (s : State) : Bool :=
  s.role == .drive && !s.halted && s.hc.runState == .run && s.safeOutput

/-- The gate is CALLING the lane. -/
def Gate.calls (g : Gate) (l : Lane) : Bool :=
  match g with
  | .calling m => m == l
  | _ => false

/-- The signal lamp of a lane is lit (R149). -/
def State.lampOutput (s : State) (l : Lane) : Bool := s.role == .entry && s.mayDrive && s.ac.gate.calls l

/-- The drive output of a channel is on: the brush motor in the first N milliseconds of its drive period, the last of which
lasts until the next period begins, the spray valve, the dryer fan (R57 and the tables of 3.6 and 3.7). -/
def Channel.drive (c : Channel) : Bool :=
  match c.cfg.kind with
  | .brush => decide (min c.drivePhase (Config.drivePeriod - 1) < c.onTime)
  | .spray => c.state == .opened || c.state == .purging
  | .dryer => c.state == .running || c.state == .runOn

/-- The drive output DRV of a channel (R208). -/
def State.driveOutput (s : State) (ch : ChannelNo) : Bool :=
  match s.ss[ch.val]? with
  | some c => s.mayDrive && c.drive
  | none => false

/-- The arm lines of a channel: HOME, OUT or HOLD (3.1). -/
inductive Arm where
  | home
  | out
  | hold
  deriving DecidableEq, Repr

/-- The arm a brush's state commands; a SUSPENDED brush's follows the view (R52 and the table of 3.5). -/
def Channel.arm (c : Channel) (view : Option Grade) : Arm :=
  match c.cfg.kind, c.state with
  | .brush, .engaged => .out
  | .brush, .suspended => if view = some .pause then .hold else .home
  | _, _ => .home

/-- The actuator output of a channel, by the arm it commands (R208). -/
def State.armOutput (s : State) (ch : ChannelNo) : Arm :=
  match s.ss[ch.val]? with
  | some c => if s.mayDrive then c.arm s.grade else .home
  | none => .home

/-- The level of the ARM_OUT line of a channel: on for OUT alone (R208). -/
def State.armOutLine (s : State) (ch : ChannelNo) : Bool := s.armOutput ch == .out

/-- The level of the ARM_HOLD line of a channel: on for HOLD alone; HOME has both lines off (R208). -/
def State.armHoldLine (s : State) (ch : ChannelNo) : Bool := s.armOutput ch == .hold

/-- The chip select of the SPI port is active while the image is read in LOADING (R200, R201). -/
def State.chipSelect (s : State) : Bool := !s.inReset && s.hc.runState == .loading

end Sys2Proof.Machine
end

