-- ==== Sys2Proof/Machine/Operands.lean ====
section
/-! DEFINITION. How the fields of a frame are read and written: the codings of 11.7 and the ranges the owning rules state. -/

namespace Sys2Proof.Machine

open Sys2Proof

/-- The lane a lane field names, none for a value that names neither (R129, 11.7). -/
def laneOf (b : Byte) : Option Lane := if b = 1 then some .a else if b = 2 then some .b else none

/-- An intensity field: below 1 counts as 1, above 4 as 4 (R20, R197). -/
def intensityOf (b : Byte) : Nat := clamp 1 4 b.toNat

/-- The role a beacon's top two bits name (11.7). -/
def beaconRole (b : Byte) : Role :=
  match (b >>> 6).toNat with
  | 0 => .entry
  | 1 => .drive
  | 2 => .exit
  | _ => .arch

/-- The run state a beacon shows; a value other than the six is recorded as JOINING (R187, 11.7). -/
def beaconState (b : Byte) : RunState :=
  match ((b >>> 3) &&& 7).toNat with
  | 1 => .syncing
  | 2 => .ready
  | 3 => .run
  | 4 => .standby
  | 5 => .configFault
  | _ => .joining

/-- The cause set a beacon carries, members outside 1 to 17 left out (R84, R187). -/
def beaconCauses (x : BitVec 24) : CauseSet := x.setWidth 17

/-- The code of a role in a beacon (11.7). -/
def Role.beaconCode : Role → Nat
  | .entry => 0
  | .drive => 1
  | .exit => 2
  | .arch => 3

/-- The code of a run state in a beacon (11.7); LOADING sends none. -/
def RunState.beaconCode : RunState → Nat
  | .joining => 0
  | .syncing => 1
  | .ready => 2
  | .run => 3
  | .standby => 4
  | .configFault => 5
  | .loading => 0

/-- The role-and-state byte of a beacon (11.7). -/
def roleStateByte (r : Role) (x : RunState) (syncFailed : Bool) : Byte :=
  BitVec.ofNat 8 (r.beaconCode * 64 + x.beaconCode * 8 + (if syncFailed then 1 else 0))

/-- The result field of a QUOTE (11.7). -/
inductive QuoteResult where
  | quoted
  | notOffered
  | noCredit
  | notReady
  | laneFull
  | busy
  | tooLate
  deriving DecidableEq, Repr

/-- The code of a QUOTE result (11.7). -/
def QuoteResult.code : QuoteResult → Byte
  | .quoted => 0
  | .notOffered => 1
  | .noCredit => 2
  | .notReady => 3
  | .laneFull => 4
  | .busy => 5
  | .tooLate => 6

/-- The reason field of a VOID (7.1). -/
inductive VoidReason where
  | cancelled
  | timeout
  | replaced
  | restart
  | late
  deriving DecidableEq, Repr

/-- The code of a VOID reason (11.7). -/
def VoidReason.code : VoidReason → Byte
  | .cancelled => 1
  | .timeout => 2
  | .replaced => 3
  | .restart => 4
  | .late => 5

/-- A two-byte money, length, front or count field. -/
def half (n : Nat) : Half := BitVec.ofNat 16 n

/-- A one-byte field. -/
def byte (n : Nat) : Byte := BitVec.ofNat 8 n

/-- A COMMAND's target field names this station: 0 or its number (R100). -/
def State.isTarget (s : State) (target : Byte) : Bool := target == 0 || target.toNat == s.cl.constants.station

end Sys2Proof.Machine
end

