-- ==== Sys2Proof/Machine/LinePort.lean ====
section
/-! DEFINITION. The transmit queue of LP (9.4) and what an attempt does to it (9.5). -/

namespace Sys2Proof.Machine

open Sys2Proof

/-- The kind code of a frame (the table of R169). -/
def Frame.kind : Frame → Nat
  | .halt .. => 1
  | .release .. => 2
  | .command .. => 3
  | .admitCar .. => 4
  | .length .. => 5
  | .depart .. => 6
  | .flow .. => 7
  | .report .. => 8
  | .syncReq .. => 9
  | .syncCar .. => 10
  | .syncEnd .. => 11
  | .quote .. => 12
  | .paid .. => 13
  | .void .. => 14
  | .select .. => 15
  | .tender .. => 16
  | .cancel .. => 17
  | .beacon .. => 18

/-- The kind code of a queued frame. -/
def Queued.kind (q : Queued) : Nat := q.frame.kind

/-- A BEACON or a FLOW, the two kinds whose waiting frame is written over in place (R174). -/
def Frame.single : Frame → Bool
  | .beacon .. => true
  | .flow .. => true
  | _ => false

/-- The partner of a HALT is a RELEASE of its cause, and of a RELEASE a HALT of its cause (R175). -/
def Frame.partner (f g : Frame) : Bool :=
  match f, g with
  | .halt c _ _, .release d => c == d
  | .release c, .halt d _ _ => c == d
  | _, _ => false

/-- The place of a newly queued frame: behind every frame of its own kind (R172, R173). -/
def insertBehind (f : Queued) : List Queued → List Queued
  | [] => [f]
  | q :: qs => if q.kind ≤ f.kind then q :: insertBehind f qs else f :: q :: qs

/-- The place of a returned frame: ahead of every frame of its own kind (R178). -/
def insertAhead (f : Queued) : List Queued → List Queued
  | [] => [f]
  | q :: qs => if q.kind < f.kind then q :: insertAhead f qs else f :: q :: qs

/-- The first frame that satisfies p removed. -/
def removeFirst (p : Queued → Bool) : List Queued → List Queued
  | [] => []
  | q :: qs => if p q then qs else q :: removeFirst p qs

/-- The largest kind code among the waiting frames, 0 for none (R176). -/
def largestKind (qs : List Queued) : Nat := qs.foldl (fun k q => max k q.kind) 0

/-- The newest frame of kind k removed: the last of that kind, in queue order (R172, R176). -/
def dropNewest (k : Nat) (qs : List Queued) : List Queued := (removeFirst (fun q => q.kind == k) qs.reverse).reverse

/-- The frames of the queue, the one in hand included (R172). -/
def LinePort.size (lp : LinePort) : Nat := lp.waiting.length + (if lp.inHand.isSome then 1 else 0)

/-- The places of the queue that are free (R172). -/
def LinePort.freePlaces (lp : LinePort) : Nat := Config.queueMax - lp.size

/-- A frame of the kind waits. -/
def LinePort.waits (lp : LinePort) (k : Nat) : Bool := lp.waiting.any (fun q => q.kind == k)

/-- The frame's partner waits (R175). -/
def LinePort.partnerWaits (lp : LinePort) (f : Frame) : Bool := lp.waiting.any (fun q => f.partner q.frame)

/-- Queueing a frame: written over the waiting one of its kind (R174), annulled against its partner (R175), placed in kind
order (R173), or placed by dropping another or dropped itself (R176). Two partners may wait together, and R175 does not say which
of them a frame annuls: the first in queue order, alone: DESIGN CHOICE (log entry 42). -/
def LinePort.hand (lp : LinePort) (f : Queued) : LinePort :=
  if f.frame.single && lp.waits f.kind then
    { lp with waiting := lp.waiting.map (fun q => if q.kind == f.kind then f else q) }
  else if lp.partnerWaits f.frame then
    { lp with waiting := removeFirst (fun q => f.frame.partner q.frame) lp.waiting }
  else if lp.size < Config.queueMax then
    { lp with waiting := insertBehind f lp.waiting }
  else if f.kind < largestKind lp.waiting then
    { lp with waiting := insertBehind f (dropNewest (largestKind lp.waiting) lp.waiting) }
  else lp

/-- The frame in hand goes back to waiting (R178), unless a newer frame of its kind waits and it is a BEACON or FLOW (R174),
or its partner waits and both go (R175), the first in queue order where two partners wait (log entry 42). -/
def LinePort.giveBack (lp : LinePort) : LinePort :=
  match lp.inHand with
  | none => lp
  | some f =>
    if f.frame.single && lp.waits f.kind then { lp with inHand := none }
    else if lp.partnerWaits f.frame then
      { lp with inHand := none, waiting := removeFirst (fun q => f.frame.partner q.frame) lp.waiting }
    else { lp with inHand := none, waiting := insertAhead f lp.waiting }

/-- A failure counted, saturating at 255 (R179). -/
def LinePort.fail (lp : LinePort) : LinePort := { lp with failures := min (lp.failures + 1) 255 }

/-- δ at pulse count p for an entry mark: the pulses since the mark, saturating at 255 (R14, R157). -/
def deltaAt (p entryMark : Pulse) : Byte := byte (min (p - entryMark).toNat 255)

/-- A waiting ADMIT's δ written again: one that has reached 255 stays there, however often P comes round (R157). Any other frame
stands. -/
def Queued.rewriteDelta (p : Pulse) (q : Queued) : Queued :=
  match q.frame, q.entryMark with
  | .admitCar t d sv i l, some m => { q with frame := .admitCar t (if d = 255 then 255 else deltaAt p m) sv i l }
  | _, _ => q

/-- Every waiting ADMIT's δ written again at a pulse (R157). -/
def LinePort.rewriteDeltas (lp : LinePort) (p : Pulse) : LinePort :=
  { lp with waiting := lp.waiting.map (Queued.rewriteDelta p) }

/-- A frame queued by its owner (R173). -/
def State.queue (s : State) (f : Frame) : State := s.setLp (s.lp.hand ⟨f, none⟩)

/-- An ADMIT queued with its car's entry mark (R157). -/
def State.queueAdmit (s : State) (f : Frame) (entryMark : Pulse) : State := s.setLp (s.lp.hand ⟨f, some entryMark⟩)

/-! ### Raising and releasing a cause -/

/-- The HALT that announces a cause, with the current rank of the view (R85). -/
def State.haltFrame (s : State) (c : Cause) : Frame :=
  .halt (byte c.rank) c.grade.code (byte (currentRank s.view))

/-- A block hands HC a cause (R85): nothing if it is held; otherwise it joins the own set and its HALT is queued. In LOADING
and CONFIG_FAULT causes are raised without announcing them (R87, R205). -/
def State.raise (s : State) (c : Cause) : State :=
  if s.owns c then s
  else
    let s1 := s.setHc { s.hc with own := addCause s.hc.own c }
    if s1.active then s1.queue (s1.haltFrame c) else s1

/-- A cause leaves the own set and its RELEASE is queued; nothing for a cause that is not held (R86). -/
def State.releaseCause (s : State) (c : Cause) : State :=
  if s.owns c then (s.setHc { s.hc with own := dropCause s.hc.own c }).queue (.release (byte c.rank)) else s

end Sys2Proof.Machine
end

