-- ==== Sys2Proof/WellFormed.lean ====
section
/-! DEFINITION. Which terms of Instr are commands that can reach the part. Every operand's width is in its type, so the one
check left is the origin of a frame. -/

namespace Sys2Proof

/-- The origin that a frame command carries in its priority field, or none for a command that is no frame. -/
def Instr.origin : Instr → Option Origin
  | .halt o _ _ _ => some o
  | .release o _ => some o
  | .resume o _ => some o
  | .clearTrain o _ => some o
  | .restart o _ => some o
  | .pause o _ => some o
  | .unpause o _ => some o
  | .hold o _ => some o
  | .unhold o _ => some o
  | .purge o _ => some o
  | .admitCar o _ _ _ _ _ => some o
  | .length o _ _ => some o
  | .depart o _ _ => some o
  | .flow o _ _ => some o
  | .report o _ _ _ => some o
  | .syncReq o _ => some o
  | .syncCar o _ _ _ _ _ _ => some o
  | .syncEnd o _ _ => some o
  | .quote o _ _ _ _ _ _ => some o
  | .paid o _ _ _ _ => some o
  | .void o _ _ _ _ => some o
  | .select o _ _ _ _ _ => some o
  | .tender o _ _ _ => some o
  | .cancel o _ _ => some o
  | .beacon o _ _ _ _ _ _ _ _ => some o
  | .powerOnReset => none
  | .lossOfSupply => none
  | .loadingEnd _ => none
  | .encPulse => none
  | .tick => none
  | .speedWindowEnd => none
  | .pinLevelChange _ _ => none
  | .eyeBlockEdge => none
  | .eyeClearEdge => none
  | .estopFallingEdge => none
  | .estopRisingEdge => none
  | .pauseInputAsserted => none
  | .pauseInputDeasserted => none
  | .resumeKeyPress => none
  | .chemLowAsserted => none
  | .chemLowDeasserted => none
  | .freezeAsserted => none
  | .freezeDeasserted => none
  | .lanePresenceChange _ _ => none
  | .overTempChange _ _ => none
  | .thermalSustainExpiry _ => none
  | .currentSample _ _ => none
  | .holdOffExpiry _ => none
  | .hotTimerExpiry _ => none
  | .idleTimerExpiry _ => none
  | .brushDrivePeriod _ => none
  | .runOnExpiry _ => none
  | .purgeIntervalExpiry => none
  | .purgeDurationExpiry => none
  | .stopWindowExpiry => none
  | .standbyExpiry => none
  | .saleTimeoutExpiry _ => none
  | .callTimeoutExpiry => none
  | .admissionGapExpiry => none
  | .beaconPeriodExpiry => none
  | .faultBeaconPeriod => none
  | .joinTimeout => none
  | .syncTimeout => none
  | .syncAnswerStep => none
  | .ownOriginFrame => none
  | .sendAttemptStart => none
  | .attemptLost => none
  | .attemptFailed => none
  | .attemptSucceeded => none
  | .dominantLineStretch => none

/-- An origin that is valid on the line: 1 to 30, "Origins 0 and 31 are not valid on the line" (overview, Roles; R165). -/
def validOrigin (o : Origin) : Bool := o ≠ 0 && o ≠ 31

/-- A command can reach the part when the frame it stands for bears a valid origin. -/
def Instr.wellFormed (i : Instr) : Bool :=
  match i.origin with
  | some o => validOrigin o
  | none => true

end Sys2Proof
end

