-- ==== Sys2Proof/Machine/Line.lean ====
section
/-! DEFINITION. The bits of the station line (9.1 to 9.3): the check, stuffing, the form of a frame, arbitration by priority
value, reading a frame, and the receive filter's form test. A frame that is read becomes the command that stands for it. -/

namespace Sys2Proof.Machine

open Sys2Proof

/-! ### Bits and the check (R165) -/

/-- The bits of a word, most significant first. -/
def msbFirst {w : Nat} (x : BitVec w) : List Bool := (List.range w).map (fun i => x.getMsbD i)

/-- The number that bits sent most significant first spell. -/
def ofMsbFirst (l : List Bool) : Nat := l.foldl (fun n b => 2 * n + b.toNat) 0

/-- One bit of the check: the register's top bit compared with the incoming bit, a shift, and 4,129 combined if they
differed. -/
def checkStep (r : BitVec 16) (b : Bool) : BitVec 16 := if r.msb != b then (r <<< 1) ^^^ 4129#16 else r <<< 1

/-- The check over bits in the order they are sent (R165). -/
def checkOf (l : List Bool) : BitVec 16 := l.foldl checkStep 65535#16

/-- The bits of bytes sent most significant bit first. -/
def bitsOf (l : List Byte) : List Bool := l.flatMap msbFirst

/-- The check of the configuration image and of its constants section (R165, R201, R203). -/
def checkOfBytes (l : List Byte) : BitVec 16 := checkOf (bitsOf l)

/-! ### Stuffing (R164) -/

/-- Stuff bits inserted: after every run of five bits of one level, one of the opposite level, which begins the next run.
`last` is the level of the run so far and `n` its length. A run of five that ends at the last check bit brings its stuff bit
too, which R164 leaves open: DESIGN CHOICE (log entry 41). -/
def stuffFrom (last : Bool) (n : Nat) : List Bool → List Bool
  | [] => []
  | b :: bs =>
    let run := if b = last then n + 1 else 1
    if run = 5 then b :: (!b) :: stuffFrom (!b) 1 bs else b :: stuffFrom b run bs

/-- The stuffed bits of a frame, which opens with its dominant start bit. -/
def stuff (l : List Bool) : List Bool := stuffFrom true 0 l

/-- Stuff bits removed; none where six bits of one level stand together, a coding error (R164). A frame is read with or without
a stuff bit after its last check bit (log entry 41). -/
def unstuffFrom (last : Bool) (n : Nat) : List Bool → Option (List Bool)
  | [] => some []
  | b :: bs =>
    let run := if b = last then n + 1 else 1
    if run = 5 then
      match bs with
      | [] => some [b]
      | c :: cs => if c = b then none else (unstuffFrom c 1 cs).map (b :: ·)
    else (unstuffFrom b run bs).map (b :: ·)

/-- The bits of a frame with its stuff bits removed. -/
def unstuff (l : List Bool) : Option (List Bool) := unstuffFrom true 0 l

/-! ### The frame (R165, R169, 11.7) -/

/-- The bytes of a word, most significant first (11.7). -/
def halfBytes (x : Half) : List Byte := [x.extractLsb' 8 8, x.extractLsb' 0 8]

/-- The three bytes of a pulse count or of a cause set (11.7). -/
def tripleBytes (x : BitVec 24) : List Byte := [x.extractLsb' 16 8, x.extractLsb' 8 8, x.extractLsb' 0 8]

/-- A two-byte field. -/
def ofTwo (a b : Byte) : Half := a ++ b

/-- A three-byte field. -/
def ofThree (a b c : Byte) : BitVec 24 := a ++ b ++ c

/-- The payload of a frame (11.7). -/
def Frame.payload : Frame → List Byte
  | .halt c g r => [c, g, r]
  | .release c => [c]
  | .command c t => [c, t]
  | .admitCar t d sv i l => halfBytes t ++ [d] ++ halfBytes sv ++ [i, l]
  | .length t n => halfBytes t ++ halfBytes n
  | .depart t l => halfBytes t ++ [l]
  | .flow c t => c :: halfBytes t
  | .report t g m => halfBytes t ++ halfBytes g ++ halfBytes m
  | .syncReq k => [k]
  | .syncCar j t f n sv i => j :: halfBytes t ++ halfBytes f ++ halfBytes n ++ halfBytes sv ++ [i]
  | .syncEnd j c => [j, c]
  | .quote l s r a b c => l :: halfBytes s ++ [r] ++ halfBytes a ++ halfBytes b ++ halfBytes c
  | .paid l s t c => l :: halfBytes s ++ halfBytes t ++ halfBytes c
  | .void l s r a => l :: halfBytes s ++ [r] ++ halfBytes a
  | .select l p a t c => [l, p, a, t] ++ halfBytes c
  | .tender l s a => l :: halfBytes s ++ halfBytes a
  | .cancel l s => l :: halfBytes s
  | .beacon r c n p cl t d i =>
    r :: tripleBytes c ++ [n] ++ tripleBytes p ++ [cl] ++ halfBytes t ++ halfBytes d ++ [i]

/-- A frame of a kind read from its payload; none for a kind code outside 1 to 18 or a payload of another length (R168). -/
def Frame.ofPayload (kind : Nat) (l : List Byte) : Option Frame :=
  match kind, l with
  | 1, [c, g, r] => some (.halt c g r)
  | 2, [c] => some (.release c)
  | 3, [c, t] => some (.command c t)
  | 4, [t1, t0, d, s1, s0, i, ln] => some (.admitCar (ofTwo t1 t0) d (ofTwo s1 s0) i ln)
  | 5, [t1, t0, n1, n0] => some (.length (ofTwo t1 t0) (ofTwo n1 n0))
  | 6, [t1, t0, x] => some (.depart (ofTwo t1 t0) x)
  | 7, [c, t1, t0] => some (.flow c (ofTwo t1 t0))
  | 8, [t1, t0, g1, g0, m1, m0] => some (.report (ofTwo t1 t0) (ofTwo g1 g0) (ofTwo m1 m0))
  | 9, [k] => some (.syncReq k)
  | 10, [j, t1, t0, f1, f0, n1, n0, s1, s0, i] =>
    some (.syncCar j (ofTwo t1 t0) (ofTwo f1 f0) (ofTwo n1 n0) (ofTwo s1 s0) i)
  | 11, [j, c] => some (.syncEnd j c)
  | 12, [ln, s1, s0, r, a1, a0, b1, b0, c1, c0] =>
    some (.quote ln (ofTwo s1 s0) r (ofTwo a1 a0) (ofTwo b1 b0) (ofTwo c1 c0))
  | 13, [ln, s1, s0, t1, t0, c1, c0] => some (.paid ln (ofTwo s1 s0) (ofTwo t1 t0) (ofTwo c1 c0))
  | 14, [ln, s1, s0, r, a1, a0] => some (.void ln (ofTwo s1 s0) r (ofTwo a1 a0))
  | 15, [ln, p, a, t, c1, c0] => some (.select ln p a t (ofTwo c1 c0))
  | 16, [ln, s1, s0, a1, a0] => some (.tender ln (ofTwo s1 s0) (ofTwo a1 a0))
  | 17, [ln, s1, s0] => some (.cancel ln (ofTwo s1 s0))
  | 18, [r, c2, c1, c0, n, p2, p1, p0, cl, t1, t0, d1, d0, i] =>
    some (.beacon r (ofThree c2 c1 c0) n (ofThree p2 p1 p0) cl (ofTwo t1 t0) (ofTwo d1 d0) i)
  | _, _ => none

/-- The priority value of a frame under an origin: kind code times 32 plus origin (R165). -/
def priorityValue (o : Origin) (f : Frame) : Nat := f.kind * 32 + o.toNat

/-- The bits of the priority field, payload length and payload, over which the check is computed (R165). -/
def checkedBits (o : Origin) (f : Frame) : List Bool :=
  msbFirst (BitVec.ofNat 5 f.kind) ++ msbFirst o ++ msbFirst (BitVec.ofNat 4 f.payload.length) ++ bitsOf f.payload

/-- The bits of a frame before stuffing: start bit, checked bits, check. A dominant bit is a 0 (R165). -/
def frameBits (o : Origin) (f : Frame) : List Bool :=
  false :: checkedBits o f ++ msbFirst (checkOf (checkedBits o f))

/-- The bits a sender drives for a frame (R164, R165). -/
def sentBits (o : Origin) (f : Frame) : List Bool := stuff (frameBits o f)

/-- The bytes that bits spell, eight at a time; a remainder is dropped. -/
def bytesOfBits : List Bool → List Byte
  | a :: b :: c :: d :: e :: f :: g :: h :: rest => BitVec.ofNat 8 (ofMsbFirst [a, b, c, d, e, f, g, h]) :: bytesOfBits rest
  | _ => []

/-- A frame read from the line, from its start bit to its last check bit (R167, R168): no coding error, a payload length of
14 or less, a check that agrees, and a kind with its own payload length. -/
def readBits (line : List Bool) : Option (Origin × Frame) :=
  match unstuff line with
  | none => none
  | some [] => none
  | some (start :: bits) =>
    let kind := ofMsbFirst (bits.take 5)
    let origin := BitVec.ofNat 5 (ofMsbFirst ((bits.drop 5).take 5))
    let len := ofMsbFirst ((bits.drop 10).take 4)
    let body := bits.take (14 + 8 * len)
    let check := bits.drop (14 + 8 * len)
    if start = false ∧ len ≤ 14 ∧ body.length = 14 + 8 * len ∧ check = msbFirst (checkOf body) then
      (Frame.ofPayload kind (bytesOfBits (body.drop 14))).map (fun f => (origin, f))
    else none

/-! ### Arbitration (R166) -/

/-- The level of the line when senders drive these bits: dominant, a 0, where any sends one. -/
def wiredAnd (sent : List Bool) : Bool := sent.all id

/-- The senders left after each bit of their priority fields: one that sends recessive and reads dominant has lost. -/
def arbitrate (w : Nat) (senders : List Nat) : List Nat :=
  (List.range w).foldl (fun left i =>
    let line := wiredAnd (left.map (fun v => v.testBit (w - 1 - i)))
    left.filter (fun v => v.testBit (w - 1 - i) == line)) senders

/-- The senders left at the end of the ten-bit priority field (R165, R166). -/
def arbitrationWinners (values : List Nat) : List Nat := arbitrate 10 values

/-! ### How an attempt ends (R166, R177) -/

/-- The three ways an attempt ends (R177). -/
inductive AttemptEnd where
  | lost
  | failed
  | succeeded
  deriving DecidableEq, Repr

/-- How many bits have been sent with the nth bit of a frame, the stuff bits before it among them. -/
def sentUpTo (l : List Bool) (n : Nat) : Nat := (stuff (l.take (n - 1))).length + 1

/-- The first place, within their common length, at which two lists of bits differ. -/
def firstDifference : List Bool → List Bool → Option Nat
  | a :: as, b :: bs => if a = b then (firstDifference as bs).map (· + 1) else some 0
  | _, _ => none

/-- The bits that an attempt sends and reads back, from its start bit to its last check bit (R177). -/
def attemptBits (o : Origin) (f : Frame) : List Bool :=
  (sentBits o f).take (sentUpTo (frameBits o f) (frameBits o f).length)

/-- The bits of an attempt up to the end of its priority field: the start bit, the ten bits of the field, and the stuff bits
among them (R165, R166). -/
def arbitrationSpan (o : Origin) (f : Frame) : Nat := sentUpTo (frameBits o f) 11

/-- How an attempt to send a frame ends, given the bits read back so far (R166, R177): lost at a bit of the priority field sent
recessive and read dominant, failed at any other difference, succeeded with the last check bit read back equal; none while it
goes on. -/
def attemptEnd (o : Origin) (f : Frame) (read : List Bool) : Option AttemptEnd :=
  match firstDifference (attemptBits o f) read with
  | some i => if i < arbitrationSpan o f ∧ (attemptBits o f)[i]? = some true then some .lost else some .failed
  | none => if (attemptBits o f).length ≤ read.length then some .succeeded else none

/-! ### The command a taken frame is -/

/-- A frame that no block takes: its sender is heard, and that is all (R189). The command of a QUOTE, which no station's block
takes either, stands for it (log entry 29). -/
def heardOnly (o : Origin) : Instr := .quote o 0 0 0 0 0 0

/-- The command that stands for a frame taken from an origin (R100, R169). A COMMAND of a code outside the eight passes the
filter (R168), is delivered, and does nothing but hear its sender (R170, R189). -/
def Frame.asCommand (o : Origin) : Frame → Instr
  | .halt c g r => .halt o c g r
  | .release c => .release o c
  | .command 1 t => .resume o t
  | .command 2 t => .clearTrain o t
  | .command 3 t => .restart o t
  | .command 4 t => .pause o t
  | .command 5 t => .unpause o t
  | .command 6 t => .hold o t
  | .command 7 t => .unhold o t
  | .command 8 t => .purge o t
  | .command _ _ => heardOnly o
  | .admitCar t d sv i l => .admitCar o t d sv i l
  | .length t n => .length o t n
  | .depart t l => .depart o t l
  | .flow c t => .flow o c t
  | .report t g m => .report o t g m
  | .syncReq k => .syncReq o k
  | .syncCar j t f n sv i => .syncCar o j t f n sv i
  | .syncEnd j c => .syncEnd o j c
  | .quote l s r a b c => .quote o l s r a b c
  | .paid l s t c => .paid o l s t c
  | .void l s r a => .void o l s r a
  | .select l p a t c => .select o l p a t c
  | .tender l s a => .tender o l s a
  | .cancel l s => .cancel o l s
  | .beacon r c n p cl t d i => .beacon o r c n p cl t d i

/-- The frame a frame command stands for, with its origin; none for a command that is no frame. -/
def frameOf (i : Instr) : Option (Origin × Frame) :=
  match i with
  | .halt o c g r => some (o, .halt c g r)
  | .release o c => some (o, .release c)
  | .resume o t => some (o, .command 1 t)
  | .clearTrain o t => some (o, .command 2 t)
  | .restart o t => some (o, .command 3 t)
  | .pause o t => some (o, .command 4 t)
  | .unpause o t => some (o, .command 5 t)
  | .hold o t => some (o, .command 6 t)
  | .unhold o t => some (o, .command 7 t)
  | .purge o t => some (o, .command 8 t)
  | .admitCar o t d sv i l => some (o, .admitCar t d sv i l)
  | .length o t n => some (o, .length t n)
  | .depart o t l => some (o, .depart t l)
  | .flow o c t => some (o, .flow c t)
  | .report o t g m => some (o, .report t g m)
  | .syncReq o k => some (o, .syncReq k)
  | .syncCar o j t f n sv i => some (o, .syncCar j t f n sv i)
  | .syncEnd o j c => some (o, .syncEnd j c)
  | .quote o l s r a b c => some (o, .quote l s r a b c)
  | .paid o l s t c => some (o, .paid l s t c)
  | .void o l s r a => some (o, .void l s r a)
  | .select o l p a t c => some (o, .select l p a t c)
  | .tender o l s a => some (o, .tender l s a)
  | .cancel o l s => some (o, .cancel l s)
  | .beacon o r c n p cl t d i => some (o, .beacon r c n p cl t d i)
  | .powerOnReset => none
  | .lossOfSupply => none
  | .loadingEnd _ => none
  | .encPulse => none
  | .tick => none
  | .speedWindowEnd => none
  | .pinLevelChange _ _ => none
  | .eyeBlockEdge => none
  | .eyeClearEdge => none
  | .estopFallingEdge => none
  | .estopRisingEdge => none
  | .pauseInputAsserted => none
  | .pauseInputDeasserted => none
  | .resumeKeyPress => none
  | .chemLowAsserted => none
  | .chemLowDeasserted => none
  | .freezeAsserted => none
  | .freezeDeasserted => none
  | .lanePresenceChange _ _ => none
  | .overTempChange _ _ => none
  | .thermalSustainExpiry _ => none
  | .currentSample _ _ => none
  | .holdOffExpiry _ => none
  | .hotTimerExpiry _ => none
  | .idleTimerExpiry _ => none
  | .brushDrivePeriod _ => none
  | .runOnExpiry _ => none
  | .purgeIntervalExpiry => none
  | .purgeDurationExpiry => none
  | .stopWindowExpiry => none
  | .standbyExpiry => none
  | .saleTimeoutExpiry _ => none
  | .callTimeoutExpiry => none
  | .admissionGapExpiry => none
  | .beaconPeriodExpiry => none
  | .faultBeaconPeriod => none
  | .joinTimeout => none
  | .syncTimeout => none
  | .syncAnswerStep => none
  | .ownOriginFrame => none
  | .sendAttemptStart => none
  | .attemptLost => none
  | .attemptFailed => none
  | .attemptSucceeded => none
  | .dominantLineStretch => none

/-- The command that the bits of a frame on the line bring (R167, R168, R169). -/
def commandOfBits (line : List Bool) : Option Instr :=
  match readBits line with
  | some (o, f) => some (f.asCommand o)
  | none => none

end Sys2Proof.Machine
end

