-- ==== Sys2Proof/Machine/Image.lean ====
section
/-! DEFINITION. The configuration image: its layout (11.7), the faults that are fatal (R202) and the clamps (R203). -/

namespace Sys2Proof.Machine

open Sys2Proof

/-! ### Reading bytes -/

/-- The byte at an address, as a number. -/
def byteAt (mem : List Byte) (a : Nat) : Nat := (mem.getD a 0).toNat

/-- The two-byte field at an address, most significant byte first (11.7). -/
def halfAt (mem : List Byte) (a : Nat) : Nat := byteAt mem a * 256 + byteAt mem (a + 1)

/-- A two-byte time in seconds within lo to hi seconds, in ticks (R3, R203). -/
def secondsAt (mem : List Byte) (a lo hi : Nat) : Nat := clamp lo hi (halfAt mem a) * 1000

/-! ### What a sound image gives -/

/-- What CL hands the blocks (R204). -/
structure Image where
  constants : Constants
  channels : List ChannelConfig
  /-- The expected stations other than this one, in order of station number. -/
  peers : List (Nat × Role)
  others : List OtherPeer
  catalogue : Catalogue
  deriving DecidableEq, Repr

/-- The role a code names (11.7). -/
def roleOfCode (n : Nat) : Option Role :=
  match n with
  | 1 => some .entry
  | 2 => some .drive
  | 3 => some .exit
  | 4 => some .arch
  | _ => none

/-- The channel kind a code names (11.7). -/
def kindOfCode (n : Nat) : Option ChannelKind :=
  match n with
  | 1 => some .brush
  | 2 => some .spray
  | 3 => some .dryer
  | _ => none

/-- The bytes CL holds when it stops after the first four (R201). -/
def stopsEarly (mem : List Byte) : Bool :=
  byteAt mem 0 != 1 || decide (halfAt mem 1 < 55) || decide (220 < halfAt mem 1)

/-- The channel count. -/
def channelCount (mem : List Byte) : Nat := byteAt mem 7

/-- The address of the first byte after the channel records. -/
def afterChannels (mem : List Byte) : Nat := 8 + 22 * channelCount mem

/-- The address of the tunnel constants. -/
def constantsAt (mem : List Byte) : Nat := afterChannels mem + 20

/-- The address of the catalogue. -/
def catalogueAt (mem : List Byte) : Nat := constantsAt mem + 25

/-- The check read agrees with the check computed over every byte before it (R201). -/
def checkAgrees (mem : List Byte) : Bool :=
  let n := halfAt mem 1
  (checkOfBytes (mem.take (n - 2))).toNat == halfAt mem (n - 2)

/-- The digest: the check over the 25 stored bytes of the tunnel constants (R203). -/
def digestOf (mem : List Byte) : Half := checkOfBytes ((mem.drop (constantsAt mem)).take 25)

/-! ### Fields, clamped (R203) -/

/-- A channel record at an address, of a kind. -/
def channelAt (mem : List Byte) (a : Nat) (kind : ChannelKind) : ChannelConfig :=
  let timeTrail := kind == .dryer && byteAt mem (a + 6) == 1
  { kind := kind
    code := clamp 0 15 (byteAt mem (a + 1))
    position := clamp 1 8191 (halfAt mem (a + 2))
    lead := clamp 0 1023 (halfAt mem (a + 4))
    timeTrail := timeTrail
    trail := clamp 0 (if timeTrail then 60000 else 1023) (halfAt mem (a + 7))
    iIdle := byteAt mem (a + 9)
    iStep := clamp 0 31 (byteAt mem (a + 10))
    margin := byteAt mem (a + 11)
    stallTime := clamp 100 2000 (halfAt mem (a + 12))
    holdOff := clamp 0 2000 (halfAt mem (a + 14))
    thermalCap := clamp 1 7 (byteAt mem (a + 16))
    hotTime := secondsAt mem (a + 17) 10 600
    idleTime := secondsAt mem (a + 19) 5 600
    demand := clamp 1 15 (byteAt mem (a + 21)) }

/-- The channel records, none where a kind is none of the three. -/
def channelsOf (mem : List Byte) : Option (List ChannelConfig) :=
  (List.range (channelCount mem)).mapM (fun i =>
    (kindOfCode (byteAt mem (8 + 22 * i))).map (channelAt mem (8 + 22 * i)))

/-- The tunnel constants with the station's own fields. -/
def constantsOf (mem : List Byte) (role : Role) : Constants :=
  let a := constantsAt mem
  let t := clamp 2 63 (byteAt mem (a + 1))
  let g := clamp (2 * t + 1) 1023 (halfAt mem (a + 2))
  { station := byteAt mem 3
    role := role
    eye := if role = .entry then 0 else clamp 0 8191 (halfAt mem 5)
    budget := clamp 1 63 (byteAt mem a)
    tolerance := t
    gap := g
    admissionGap := clamp g 2047 (halfAt mem (a + 4))
    lmax := clamp 100 1023 (halfAt mem (a + 6))
    vNom := clamp 1 255 (byteAt mem (a + 8))
    admissionLimit := clamp 1 24 (byteAt mem (a + 9))
    fairness := clamp 1 7 (byteAt mem (a + 10))
    beaconPeriod := clamp 50 500 (halfAt mem (a + 11))
    silentLimit := clamp 3 10 (byteAt mem (a + 13))
    skewLimit := clamp 4 255 (byteAt mem (a + 14))
    stopWindow := clamp 500 5000 (halfAt mem (a + 15))
    standbyTime := secondsAt mem (a + 17) 60 3600
    purgeInterval := secondsAt mem (a + 19) 60 3600
    purgeDuration := clamp 5 120 (byteAt mem (a + 21)) * 1000
    saleTimeout := secondsAt mem (a + 22) 30 600
    callTimeout := clamp 10 120 (byteAt mem (a + 24)) * 1000
    digest := digestOf mem }

/-- A plan slot at an address (R112). -/
def planAt (mem : List Byte) (a : Nat) : Option Plan :=
  if byteAt mem a = 0 then none
  else some ⟨halfAt mem (a + 1), BitVec.ofNat 16 (halfAt mem (a + 3)), clamp 1 4 (byteAt mem (a + 5))⟩

/-- An add-on slot at an address (R113). -/
def addOnAt (mem : List Byte) (a : Nat) : Option AddOn :=
  if byteAt mem a = 0 then none
  else some ⟨halfAt mem (a + 1), BitVec.ofNat 16 (halfAt mem (a + 3)), BitVec.ofNat 16 (halfAt mem (a + 5))⟩

/-- A rounding unit: one of the six, any other value as 1 (R116). -/
def roundingOf (n : Nat) : Nat := if [1, 5, 10, 25, 50, 100].contains n then n else 1

/-- The catalogue section (R111 to R116). -/
def catalogueOf (mem : List Byte) : Catalogue :=
  let a := catalogueAt mem
  { plans := (List.range 12).map (fun i => planAt mem (a + 6 * i))
    addOns := (List.range 8).map (fun i => addOnAt mem (a + 72 + 7 * i))
    values := (List.range 16).map (fun i => halfAt mem (a + 128 + 2 * i))
    tiers := (List.range 4).map (fun i => clamp 0 50 (byteAt mem (a + 160 + i)))
    rounding := roundingOf (byteAt mem (a + 164)) }

/-! ### The expected list and the origins -/

/-- The sixteen codes of the expected list, of stations 1 to 16. -/
def expectedCodes (mem : List Byte) : List Nat := (List.range 16).map (fun i => byteAt mem (afterChannels mem + i))

/-- The expected list is good (R202): codes 0 to 4, one ENTRY, one DRIVE, one EXIT, and the own entry of the own role. -/
def goodExpected (mem : List Byte) : Bool :=
  let l := expectedCodes mem
  l.all (fun n => decide (n ≤ 4)) && l.count 1 == 1 && l.count 2 == 1 && l.count 3 == 1 &&
    l.getD (byteAt mem 3 - 1) 0 == byteAt mem 4

/-- The expected stations other than this one, with their roles. -/
def otherStations (mem : List Byte) : List (Nat × Role) :=
  (List.range 16).filterMap (fun i =>
    if i + 1 = byteAt mem 3 then none
    else (roleOfCode ((expectedCodes mem).getD i 0)).map (fun r => (i + 1, r)))

/-- The four origin fields: kiosk A, kiosk B, console 1, console 2. -/
def originFields (mem : List Byte) : List Nat := (List.range 4).map (fun i => byteAt mem (afterChannels mem + 16 + i))

/-- An origin from 17 to 30 (R202). -/
def otherRange (n : Nat) : Bool := decide (17 ≤ n) && decide (n ≤ 30)

/-- The origins are good (R202). -/
def goodOrigins (mem : List Byte) : Bool :=
  match originFields mem with
  | [a, b, c, d] =>
    otherRange a && otherRange b && otherRange c && (d == 0 || otherRange d) &&
      a != b && a != c && b != c && d != a && d != b && d != c
  | _ => false

/-- The records of the non-station peers (R184). -/
def otherPeers (mem : List Byte) : List OtherPeer :=
  match originFields mem with
  | [a, b, c, d] =>
    [⟨BitVec.ofNat 5 a, .kioskA⟩, ⟨BitVec.ofNat 5 b, .kioskB⟩, ⟨BitVec.ofNat 5 c, .console⟩] ++
      (if d = 0 then [] else [⟨BitVec.ofNat 5 d, .console⟩])
  | _ => []

/-! ### The reading (R201) -/

/-- What CL sends on the SPI port with chip select active: the read command, then the start address 0 as two bytes. -/
def readCommand : List Byte := [3, 0, 0]

/-- How many bytes CL clocks in: four where the format code or the length stops it there, and otherwise as many as the length
gives. -/
def bytesClocked (mem : List Byte) : Nat := if stopsEarly mem then 4 else halfAt mem 1

/-- The bytes CL holds when it drives chip select inactive, in order from address 0. -/
def clockedIn (mem : List Byte) : List Byte := mem.take (bytesClocked mem)

/-- What the station sends on the SPI port: the read command in LOADING, and nothing after it. -/
def State.spiSends (s : State) : List Byte := if s.chipSelect then readCommand else []

/-! ### The judgement (R202) -/

/-- The length that the role and the channel count call for. -/
def lengthFor (role : Role) (n : Nat) : Nat := 55 + 22 * n + (if role = .entry then 165 else 0)

/-- The conditions of R202 that follow the check, for an image of a role; true is sound. -/
def goodFields (mem : List Byte) (role : Role) : Bool :=
  let a := constantsAt mem
  let t := clamp 2 63 (byteAt mem (a + 1))
  halfAt mem 1 == lengthFor role (channelCount mem) &&
    decide (1 ≤ byteAt mem 3) && decide (byteAt mem 3 ≤ 16) &&
    decide (channelCount mem ≤ 4) && (role == .arch || channelCount mem == 0) &&
    goodExpected mem && goodOrigins mem &&
    (role != .exit || halfAt mem 5 != 0) &&
    decide (2 * t + 1 ≤ halfAt mem (a + 2))

/-- The bytes held judged (R201, R202): what they give when the image is sound, none when it is fatally faulty. The check is
judged before any field but the format and the length. -/
def judgeHeld (mem : List Byte) : Option Image :=
  if stopsEarly mem then none
  else if checkAgrees mem then
    match roleOfCode (byteAt mem 4), channelsOf mem with
    | some role, some channels =>
      if goodFields mem role then
        some {
          constants := constantsOf mem role
          channels := channels
          peers := otherStations mem
          others := otherPeers mem
          catalogue := if role = .entry then catalogueOf mem else Catalogue.empty }
      else none
    | _, _ => none
  else none

/-- The image in the configuration memory judged (R201, R202), on the bytes CL clocks in. -/
def judgeImage (mem : List Byte) : Option Image := judgeHeld (clockedIn mem)

/-- The fault origin of a faulty image (R205): its station number when it lies from 1 to 16. -/
def faultOriginOf (mem : List Byte) : Option Origin :=
  let n := byteAt (clockedIn mem) 3
  if 1 ≤ n ∧ n ≤ 16 then some (BitVec.ofNat 5 n) else none

/-- The role the fault BEACON carries (R205): the image's when its code names one, ARCH otherwise, and ARCH where the reading
stopped before the role code (log entry 12). -/
def faultRoleOf (mem : List Byte) : Role :=
  if stopsEarly mem then .arch else (roleOfCode (byteAt (clockedIn mem) 4)).getD .arch

end Sys2Proof.Machine
end

