-- ==== Sys2Proof/Machine/Service.lean ====
section
/-! DEFINITION. The service sequencer, SS (chapter 3): windows, progress and the REPORT, the states of the channels, brush
level. Channels are numbered from 0 here. -/

namespace Sys2Proof.Machine

open Sys2Proof

/-! ### Progress entries -/

/-- The car's progress at channel i; NOT_ORDERED at a channel its list has no entry for. -/
def Car.progressAt (c : Car) (i : Nat) : Progress :=
  match c.progress[i]? with
  | some e => e.value
  | none => .notOrdered

/-- The car with its entry for channel i changed. -/
def Car.modifyEntry (c : Car) (i : Nat) (f : ProgressEntry → ProgressEntry) : Car :=
  { c with progress := c.progress.modify i f }

/-- The channel's service code is in the car's service set (R43). -/
def Car.orders (c : Car) (ch : Channel) : Bool := c.services.getLsbD ch.cfg.code

/-! ### Windows (R43) -/

/-- The opening condition f ≥ C - lead. -/
def Channel.opens (ch : Channel) (p : Pulse) (c : Car) : Bool := decide (ch.cfg.position ≤ c.front p + ch.cfg.lead)

/-- How far past C a rear must lie: the trail, or 0 for a TIME trail, whose pulse part ends at r > C. -/
def ChannelConfig.pulseTrail (k : ChannelConfig) : Nat := if k.timeTrail then 0 else k.trail

/-- The closing condition of a window, or of the pulse part of one with a TIME trail. -/
def Channel.closes (ch : Channel) (p : Pulse) (lmax : Nat) (c : Car) : Bool :=
  decide (((ch.cfg.position + ch.cfg.pulseTrail : Nat) : Int) < c.rear p lmax)

/-- The window length, with the length the car holds now (R43, R48). -/
def Channel.windowLength (ch : Channel) (lmax : Nat) (c : Car) : Nat := c.span lmax + ch.cfg.lead + ch.cfg.pulseTrail

/-- The car is in the pulse part of its window at channel i: ACTIVE, and not the run-on car (R44). -/
def Channel.inPulsePart (ch : Channel) (i : Nat) (c : Car) : Bool :=
  c.progressAt i == .active && ch.runOnCar != some c.ticket

/-- A channel serves while ENGAGED, OPEN or RUNNING (R46). -/
def ChannelState.serves : ChannelState → Bool
  | .engaged => true
  | .opened => true
  | .running => true
  | _ => false

/-- Counting a pulse for a car (R46): in its pulse part before and after, at a channel that served before the pulse. The count
saturates at 4,095. -/
def Channel.countPulse (ch : Channel) (i : Nat) (p : Pulse) (lmax : Nat) (c : Car) : Car :=
  if ch.inPulsePart i c && !ch.closes p lmax c && ch.state.serves then
    c.modifyEntry i (fun e => { e with count := min (e.count + 1) 4095 })
  else c

/-- Judging a window (R48): GIVEN when the count has reached half the window length rounded up, MISSED below. A final entry
keeps its value. -/
def Channel.judge (ch : Channel) (i lmax : Nat) (c : Car) : Car :=
  c.modifyEntry i (fun e =>
    if e.value == .active then
      { e with value := if (ch.windowLength lmax c + 1) / 2 ≤ e.count then .given else .missed }
    else e)

/-- Judging one car of a train. -/
def judgeTicket (ch : Channel) (i lmax : Nat) (t : Ticket) (cars : List Car) : List Car :=
  updateCar t (ch.judge i lmax) cars

/-- A window, or the pulse part of one with a TIME trail, closes for a car. A dryer with a TIME trail begins the car's run-on
and ends an earlier car's (R44), unless it is SUSPENDED (R65); a trail of 0 runs on for no time. Any other window is judged. -/
def closeWindow (i lmax : Nat) (t : Ticket) (x : Channel × List Car) : Channel × List Car :=
  let ch := x.1
  if ch.cfg.timeTrail && ch.state != .suspended then
    let cars := match ch.runOnCar with
      | some u => judgeTicket ch i lmax u x.2
      | none => x.2
    if ch.cfg.trail = 0 then
      ({ ch with runOn := Pace.idle, runOnCar := none }, judgeTicket ch i lmax t cars)
    else ({ ch with runOn := Pace.load ch.cfg.trail, runOnCar := some t }, cars)
  else (ch, judgeTicket ch i lmax t x.2)

/-- The closing step for one car (R45, second). -/
def closeIfDue (i : Nat) (p : Pulse) (lmax : Nat) (x : Channel × List Car) (t : Ticket) : Channel × List Car :=
  match x.2.find? (fun c => c.ticket == t) with
  | some c => if x.1.inPulsePart i c && x.1.closes p lmax c then closeWindow i lmax t x else x
  | none => x

/-- The opening step for one car (R45, third): a PENDING window whose opening condition holds becomes ACTIVE, and closes in
the same examination when its closing condition holds too. -/
def openIfDue (i : Nat) (p : Pulse) (lmax : Nat) (x : Channel × List Car) (t : Ticket) : Channel × List Car :=
  match x.2.find? (fun c => c.ticket == t) with
  | some c =>
    if c.progressAt i == .pending && x.1.opens p c then
      closeIfDue i p lmax
        (x.1, updateCar t (fun c => c.modifyEntry i (fun e => { e with value := .active })) x.2) t
    else x
  | none => x

/-- The tickets of a train, oldest car first. -/
def ticketsOf (cars : List Car) : List Ticket := cars.map (fun c => c.ticket)

/-- One step of an examination made for each of the tickets in turn, oldest car first. R45 gives the cars of one step no order:
DESIGN CHOICE (log entry 37). -/
def examineCars (step : Channel × List Car → Ticket → Channel × List Car) (ts : List Ticket)
    (x : Channel × List Car) : Channel × List Car :=
  ts.foldl step x

/-! ### The REPORT (R50) -/

/-- A final progress value (3.3). -/
def Progress.final : Progress → Bool
  | .given => true
  | .missed => true
  | .notOrdered => true
  | _ => false

/-- The car's REPORT is due: every entry final, one GIVEN or MISSED, the flag clear. -/
def Car.reportDue (c : Car) : Bool :=
  !c.reported && c.progress.all (fun e => e.value.final) && c.progress.any (fun e => e.value == .given || e.value == .missed)

/-- The set of one service code. -/
def codeBit (code : Nat) : ServiceSet := BitVec.ofNat 16 (2 ^ code)

/-- The codes of the channels at which the car's progress satisfies a test. -/
def codesWhere (test : Progress → Bool) (chs : List Channel) (c : Car) : ServiceSet :=
  chs.zipIdx.foldl (fun x y => if test (c.progressAt y.2) then x ||| codeBit y.1.cfg.code else x) 0

/-- The missed set: codes with a channel at which the car is MISSED. -/
def missedSet (chs : List Channel) (c : Car) : ServiceSet := codesWhere (· == .missed) chs c

/-- The given set: codes every channel of which is GIVEN for the car. -/
def givenSet (chs : List Channel) (c : Car) : ServiceSet :=
  codesWhere (· == .given) chs c &&& ~~~ codesWhere (· != .given) chs c

/-- The test of R50 for one car: its REPORT queued and its flag set. -/
def State.reportCar (s : State) (t : Ticket) : State :=
  match s.car t with
  | some c =>
    if c.reportDue then
      (s.setTrain (updateCar t (fun c => { c with reported := true }) s.ts.train)).queue
        (.report t (givenSet s.ss c) (missedSet s.ss c))
    else s
  | none => s

/-- The test of R50 for every car, oldest first. Where several cars become final together, at one channel (R48) or by a forced
purge (R63), their REPORTs are queued in that order, which the rules do not give: DESIGN CHOICE (log entry 37). -/
def State.flushReports (s : State) : State := (ticketsOf s.ts.train).foldl State.reportCar s

/-! ### Water drawn (R67, R70) -/

/-- The demand a channel draws: a spray's while OPEN or PURGING. -/
def Channel.draws (ch : Channel) : Nat :=
  if ch.cfg.kind == .spray && (ch.state == .opened || ch.state == .purging) then ch.cfg.demand else 0

/-- The station's own claim as its channels stand. -/
def claimOf (chs : List Channel) : Nat := (chs.map Channel.draws).sum

/-- The claims of all peers in the view of claims (R69). -/
def State.peerClaims (s : State) : Nat := (s.pt.peers.map (fun r => r.claim)).sum

/-- The engagement test for a demand, on the total as it stands (R70). -/
def State.fits (s : State) (demand : Nat) : Bool :=
  decide (claimOf s.ss + s.peerClaims + demand ≤ s.cl.constants.budget)

/-! ### Brush level (R56, R61) -/

/-- I: the largest intensity among the cars ACTIVE at the brush. -/
def largestIntensity (i : Nat) (cars : List Car) : Nat :=
  cars.foldl (fun m c => if c.progressAt i == .active then max m c.intensity else m) 0

/-- The level of an ENGAGED brush. -/
def brushLevel (v vNom intensity : Nat) (override : Bool) (cap : Nat) : Nat :=
  if v = 0 then 0
  else
    let l := clamp 1 8 ((2 * intensity * v + vNom - 1) / vNom)
    if override then min l cap else l

/-- A brush given a level: a rise reloads a running hold-off (R61). -/
def Channel.setLevel (ch : Channel) (l : Nat) : Channel :=
  { ch with level := l, holdOff := if ch.level < l && ch.holdOff.running then Pace.load ch.cfg.holdOff else ch.holdOff }

/-- The level R56 gives the brush at channel i now. -/
def State.levelFor (s : State) (i : Nat) (ch : Channel) : Nat :=
  brushLevel s.pc.v s.cl.constants.vNom (largestIntensity i s.ts.train) ch.override ch.cfg.thermalCap

/-- The brush at channel i recomputes its level if it is ENGAGED. -/
def State.relevel (s : State) (i : Nat) : State :=
  match s.ss[i]? with
  | some ch => if ch.cfg.kind == .brush && ch.state == .engaged then s.setChannel i (ch.setLevel (s.levelFor i ch)) else s
  | none => s

/-! ### Channel states -/

/-- A channel has a window open: some car is ACTIVE at it (R43). -/
def windowOpen (i : Nat) (cars : List Car) : Bool := cars.any (fun c => c.progressAt i == .active)

/-- Some car is in the pulse part of its window (R64). -/
def Channel.pulsePartOpen (ch : Channel) (i : Nat) (cars : List Car) : Bool := cars.any (ch.inPulsePart i)

/-- A PENDING car stands within twice the lead of the brush (R54). -/
def Channel.carNear (ch : Channel) (i : Nat) (p : Pulse) (cars : List Car) : Bool :=
  cars.any (fun c => c.orders ch && c.progressAt i == .pending && decide (ch.cfg.position ≤ c.front p + 2 * ch.cfg.lead))

/-- Entry to READY: the idle timer loaded; an exit from ENGAGED cancels the hold-off and the HOT timer and takes the level
to 0 (R54, R55). -/
def Channel.enterReady (ch : Channel) : Channel :=
  { ch with state := .ready, level := 0, idle := Pace.load ch.cfg.idleTime, holdOff := Pace.idle, hot := Pace.idle }

/-- Entry to PARKED. -/
def Channel.enterParked (ch : Channel) : Channel :=
  { ch with state := .parked, level := 0, idle := Pace.idle, holdOff := Pace.idle, hot := Pace.idle }

/-- Entry to ENGAGED (R54, R55, R59, R61): idle timer and hold-off loaded, the HOT timer too under override, the level
computed. A hold-off of 0 has expired at once. -/
def State.enterEngaged (s : State) (i : Nat) (ch : Channel) : Channel :=
  { ch with
    state := .engaged
    level := s.levelFor i ch
    idle := Pace.load ch.cfg.idleTime
    holdOff := if ch.cfg.holdOff = 0 then Pace.idle else Pace.load ch.cfg.holdOff
    hot := if ch.override then Pace.load ch.cfg.hotTime else Pace.idle }

/-- The fourth step of an examination at a brush (R54, R66). The level of an ENGAGED brush is computed here, once, from what the
whole examination leaves. A pulse that closes one window and opens another changes I twice under R56; the level goes from its old
value to its new one in one move, and only a rise from the one to the other reloads a running hold-off (R61): DESIGN CHOICE (log
entry 44). -/
def State.refreshBrush (s : State) (i : Nat) (ch : Channel) : Channel :=
  let isOpen := windowOpen i s.ts.train
  match ch.state with
  | .parked =>
    if s.hc.runState == .standby then ch
    else if isOpen then s.enterEngaged i ch.enterReady
    else if ch.carNear i s.pc.p s.ts.train then ch.enterReady
    else ch
  | .ready => if isOpen then s.enterEngaged i ch else ch
  | .engaged => if isOpen then ch.setLevel (s.levelFor i ch) else ch.enterReady
  | _ => ch

/-- The fourth step at a spray (R62); a DEFERRED spray with a window open makes the engagement test again when `retry`. -/
def State.refreshSpray (s : State) (retry : Bool) (i : Nat) (ch : Channel) : Channel :=
  let isOpen := windowOpen i s.ts.train
  match ch.state with
  | .closed => if isOpen then { ch with state := if s.fits ch.cfg.demand then .opened else .deferred } else ch
  | .deferred =>
    if !isOpen then { ch with state := .closed }
    else if retry && s.fits ch.cfg.demand then { ch with state := .opened }
    else ch
  | .opened => if isOpen then ch else { ch with state := .closed }
  | _ => ch

/-- The fourth step at a dryer (R64). -/
def State.refreshDryer (s : State) (i : Nat) (ch : Channel) : Channel :=
  let part := ch.pulsePartOpen i s.ts.train
  match ch.state with
  | .off => if part then { ch with state := .running } else ch
  | .running => if part then ch else { ch with state := if ch.runOn.lasts then .runOn else .off }
  | .runOn => if part then { ch with state := .running } else if ch.runOn.lasts then ch else { ch with state := .off }
  | _ => ch

/-- The fourth step of an examination (R45): the channel's state brought up to date as its kind's rule gives. A brush that
engages with a hold-off of 0 is judged for STALL at once, as at any expiry of the hold-off (R61). -/
def State.refresh (s : State) (retry : Bool) (i : Nat) : State :=
  match s.ss[i]? with
  | none => s
  | some ch =>
    match ch.cfg.kind with
    | .spray => s.setChannel i (s.refreshSpray retry i ch)
    | .dryer => s.setChannel i (s.refreshDryer i ch)
    | .brush =>
      let ch1 := s.refreshBrush i ch
      let s1 := s.setChannel i ch1
      if ch.state != .engaged && ch1.state == .engaged && ch.cfg.holdOff == 0 && decide (ch.cfg.stallTime ≤ ch.overRun) then
        s1.raise .stall
      else s1

/-- Something done at every channel in turn. -/
def State.eachChannel (s : State) (f : State → Nat → State) : State := (List.range s.ss.length).foldl f s

/-- Every channel's state brought up to date. -/
def State.refreshAll (s : State) (retry : Bool) : State := s.eachChannel (fun s i => s.refresh retry i)

/-! ### Examinations (R45) -/

/-- The cars and the channel i as an examination leaves them. -/
def State.withExamined (s : State) (i : Nat) (x : Channel × List Car) : State := (s.setChannel i x.1).setTrain x.2

/-- The four steps at channel i at a pulse, with the REPORTs of the cars judged there (R48). -/
def State.examinePulseAt (s : State) (i : Nat) : State :=
  match s.ss[i]? with
  | none => s
  | some ch =>
    let lmax := s.cl.constants.lmax
    let ts := ticketsOf s.ts.train
    let counted := (ch, s.ts.train.map (ch.countPulse i s.pc.p lmax))
    let closed := examineCars (closeIfDue i s.pc.p lmax) ts counted
    ((s.withExamined i (examineCars (openIfDue i s.pc.p lmax) ts closed)).refresh true i).flushReports

/-- The examination at a pulse: each channel in turn (R45). -/
def State.examinePulse (s : State) : State := s.eachChannel State.examinePulseAt

/-- Steps three and four at channel i for some cars, with the REPORTs of the cars judged there (R48). -/
def State.examineOpenAt (ts : List Ticket) (s : State) (i : Nat) : State :=
  match s.ss[i]? with
  | none => s
  | some ch =>
    ((s.withExamined i (examineCars (openIfDue i s.pc.p s.cl.constants.lmax) ts (ch, s.ts.train))).refresh false i).flushReports

/-- Steps three and four at every channel, for a newly placed car (R47) or for every car (R66). The test of R50 comes again at
the end, for a car that was final as it was placed. -/
def State.examineOpen (s : State) (ts : List Ticket) : State := (s.eachChannel (State.examineOpenAt ts)).flushReports

/-- The examination a length fill-in makes at channel i for its car (R49), with its REPORT (R48). -/
def State.examineLengthAt (t : Ticket) (s : State) (i : Nat) : State :=
  match s.ss[i]? with
  | none => s
  | some ch => ((s.withExamined i (closeIfDue i s.pc.p s.cl.constants.lmax (ch, s.ts.train) t)).refresh false i).flushReports

/-- The examination a length fill-in makes (R49). -/
def State.examineLength (s : State) (t : Ticket) : State := s.eachChannel (State.examineLengthAt t)

/-- The progress list of a newly placed car (R47). -/
def fillProgress (chs : List Channel) (p : Pulse) (c : Car) : Car :=
  { c with
    progress := chs.map (fun ch =>
      ⟨if !c.orders ch then .notOrdered else if c.synced && ch.opens p c then .missed else .pending, 0⟩)
    reported := false }

/-- SS forgets a car that has left the train (R44, R51). -/
def State.forgetCar (s : State) (t : Ticket) : State :=
  (s.setSs (s.ss.map (fun ch =>
    if ch.runOnCar == some t then { ch with runOnCar := none, runOn := Pace.idle } else ch))).refreshAll false

/-! ### Under halt causes (3.4) -/

/-- Entry to SUSPENDED at channel i (R52, R65): timers cancelled, level and over run 0, the drive off at once, a running
run-on cut short and its car judged. -/
def State.suspendAt (s : State) (i : Nat) : State :=
  match s.ss[i]? with
  | none => s
  | some ch =>
    let cars := match ch.runOnCar with
      | some t => judgeTicket ch i s.cl.constants.lmax t s.ts.train
      | none => s.ts.train
    (s.setChannel i { ch with
      state := .suspended, level := 0, overRun := 0, onTime := 0, runOnCar := none
      idle := Pace.idle, holdOff := Pace.idle, hot := Pace.idle, runOn := Pace.idle }).setTrain cars

/-- Every channel goes SUSPENDED (R52). One cause may cut short the run-ons of two dryers, and R65 does not say in what order the
REPORTs of their cars are queued: the test of R50 is made once, after every channel, oldest car first: DESIGN CHOICE (log entry
37). -/
def State.suspendAll (s : State) : State := (s.eachChannel State.suspendAt).flushReports

/-- A channel takes up its state afresh, on the total as the channels before it have left it (log entry 38): at the release of
the last H or P cause (R53), and a spray at the end of a purge (R63). -/
def State.takeUpAt (s : State) (i : Nat) : State :=
  match s.ss[i]? with
  | none => s
  | some ch =>
    let isOpen := windowOpen i s.ts.train
    s.setChannel i (match ch.cfg.kind with
      | .brush =>
        if isOpen then s.enterEngaged i ch
        else if s.hc.runState == .standby then ch.enterParked
        else ch.enterReady
      | .spray =>
        { ch with state := if !isOpen then .closed else if s.fits ch.cfg.demand then .opened else .deferred }
      | .dryer => { ch with state := if ch.pulsePartOpen i s.ts.train then .running else .off })

/-- Every channel takes up its state afresh (R53), the sprays among them making their engagement tests in channel order, which
R53 leaves open: DESIGN CHOICE (log entry 38). -/
def State.takeUpAll (s : State) : State := s.eachChannel State.takeUpAt

/-- The channel an accepted image creates (R42, R58, R60): it takes the view at once, and STARTUP is in it. -/
def createChannel (cfg : ChannelConfig) (overTemp : Bool) : Channel where
  cfg := cfg
  state := .suspended
  level := 0
  override := false
  recorded := cfg.kind == .brush && overTemp
  overRun := 0
  runOnCar := none
  idle := Pace.idle
  sustain := if cfg.kind == .brush && overTemp then Pace.load Config.thermalSustain else Pace.idle
  hot := Pace.idle
  holdOff := Pace.idle
  sample := if cfg.kind == .brush then Pace.load Config.samplePeriod else Pace.idle
  runOn := Pace.idle
  onTime := 0
  drivePhase := 0

/-- The on-time a brush takes at the start of a drive period (R57). -/
def Channel.drivePeriodOn (ch : Channel) : Nat :=
  match ch.state with
  | .engaged => ch.level
  | .ready => 1
  | _ => 0

/-- The expected current of a brush and its threshold (R60). -/
def Channel.threshold (ch : Channel) : Nat :=
  min (min (ch.cfg.iIdle + ch.level * ch.cfg.iStep) 255 + ch.cfg.margin) 255

/-- Some brush of the station has override active (R59). -/
def State.anyOverride (s : State) : Bool := s.ss.any (fun ch => ch.override)

end Sys2Proof.Machine
end

