-- ==== Sys2Proof/Machine/Train.lean ====
section
/-! DEFINITION. The train store, TS (chapter 2): placement, retirement, removal, the eye reconciler and departures. -/

namespace Sys2Proof.Machine

open Sys2Proof

/-! ### Removal (R26, R27) -/

/-- A ticket entered in the recent-departed list (R26): not twice, the last four kept, newest last. -/
def enterRecent (t : Ticket) (l : List Ticket) : List Ticket :=
  if l.contains t then l else if l.length < 4 then l ++ [t] else (l ++ [t]).drop (l.length - 3)

/-- The phase after a car has left the train: a block of the car's becomes UNMATCHED (R27). -/
def phaseWithout (t : Ticket) (ph : EyePhase) : EyePhase := if ph = .matched t then .unmatched else ph

/-- A car taken out of the train whole (R27), and SS told (R51). -/
def State.removeCar (s : State) (t : Ticket) : State :=
  if s.holds t then
    (s.setTs { s.ts with
      train := s.ts.train.filter (fun c => c.ticket != t)
      phase := phaseWithout t s.ts.phase }).forgetCar t
  else s

/-- A DEPART emitted by the EXIT (R39): queued, the car removed, its ticket entered in the recent-departed list. -/
def State.departCar (s : State) (lost : Bool) (t : Ticket) : State :=
  let s1 := (s.queue (.depart t (if lost then 1 else 0))).removeCar t
  s1.setTs { s1.ts with recent := enterRecent t s1.ts.recent }

/-! ### Retirement (R23, R24) -/

/-- The positions a channel adds to the retire point (R23). -/
def Channel.reach (ch : Channel) : Nat := ch.cfg.position + ch.cfg.pulseTrail

/-- The channel counts toward the retire point: one with a PULSE trail, or a DRYER with a TIME trail; every channel is one of
the two (R203). -/
def State.retirePoint (s : State) : Nat :=
  let k := s.cl.constants
  match k.role with
  | .entry => k.lmax + k.tolerance
  | _ => s.ss.foldl (fun m ch => max m ch.reach) k.eye + k.tolerance

/-- A run-on of the station is running for the car (R24). -/
def State.heldByRunOn (s : State) (t : Ticket) : Bool := s.ss.any (fun ch => ch.runOnCar == some t)

/-- The retirement check for one car (R23, R24, R25). -/
def State.retireCar (s : State) (t : Ticket) : State :=
  match s.car t with
  | some c =>
    if !s.keeper && decide ((s.retirePoint : Int) < c.rear s.pc.p s.cl.constants.lmax) && !s.heldByRunOn t then s.removeCar t
    else s
  | none => s

/-- The retirement check for every car, oldest first. -/
def State.retireAll (s : State) : State := (ticketsOf s.ts.train).foldl State.retireCar s

/-- The retirement checks of the cars whose run-on was cut short between two states (R24, R65). -/
def State.retireEnded (before after : State) : State :=
  (before.ss.filterMap (fun ch => ch.runOnCar)).foldl (fun s t => if s.heldByRunOn t then s else s.retireCar t) after

/-- The progress of a held car at channel i is final. -/
def State.finalAt (s : State) (i : Nat) (t : Ticket) : Bool :=
  match s.car t with
  | some c => (c.progressAt i).final
  | none => false

/-- A run-on of the car ended in the examination that led from one state to another (R44): at a TIME-trail dryer that is not
SUSPENDED (R65) its progress has become final. A trail of 0 runs on for no time and ends so too. -/
def State.runOnOver (before after : State) (t : Ticket) : Bool :=
  after.ss.zipIdx.any (fun y =>
    y.1.cfg.timeTrail && y.1.state != .suspended && !before.finalAt y.2 t && after.finalAt y.2 t)

/-- The retirement checks of the cars whose run-on ended in an examination (R24, R44), oldest car first (log entry 35). -/
def State.retireServed (before after : State) : State :=
  (ticketsOf before.ts.train).foldl (fun s t => if before.runOnOver after t then s.retireCar t else s) after

/-! ### Saturation and order keeping (R13, R25) -/

/-- Each car from oldest to newest: a front at 16,383 is held there, and a front not below its older neighbour's becomes the
neighbour's less 1. -/
def keepOrder (p : Pulse) : Option Nat → List Car → List Car
  | _, [] => []
  | older, c :: cs =>
    let c1 := if c.front p = Config.frontMax then c.setFront p Config.frontMax else c
    let c2 := match older with
      | some f => if c1.front p < f then c1 else c1.setFront p (f - 1)
      | none => c1
    c2 :: keepOrder p (some (c2.front p)) cs

/-! ### The eye (2.3) -/

/-- The station has an eye reconciler: an eye at 1 to 8,191, at a station that is not the ENTRY. -/
def State.reconciles (s : State) : Bool := s.role != .entry && s.cl.constants.eye != 0

/-- The station has an eye: the ENTRY's datum eye or one at 1 to 8,191. -/
def State.hasEye (s : State) : Bool := s.role == .entry || s.cl.constants.eye != 0

/-- The front lies above E + T. -/
def State.pastEye (s : State) (c : Car) : Bool :=
  decide (s.cl.constants.eye + s.cl.constants.tolerance < c.front s.pc.p)

/-- The car has been carried through a beam already broken: a block is on and its front at the block mark was below E - T
(R34). -/
def State.merged (s : State) (c : Car) : Bool :=
  match s.ts.phase, s.ts.blockMark with
  | .clear, _ => false
  | _, none => false
  | _, some b =>
    decide ((c.front s.pc.p : Int) - ((s.pc.p - b).toNat : Int)
      < (s.cl.constants.eye : Int) - (s.cl.constants.tolerance : Int))

/-- The missing and merge check for one car (R34). -/
def State.missingCar (s : State) (t : Ticket) : State :=
  match s.car t with
  | some c =>
    if c.eye == .unseenYet && s.pastEye c then
      (s.setTrain (updateCar t (fun c => { c with eye := .unseen }) s.ts.train)).raise
        (if s.merged c then .closing else .missing)
    else s
  | none => s

/-- The missing and merge check (R34), not made while the eye is held (R30) nor at a station with no reconciler (R29). -/
def State.missingCheck (s : State) : State :=
  if s.reconciles && !s.ts.held then (ticketsOf s.ts.train).foldl State.missingCar s else s

/-- The candidates for a match: UNSEEN-YET cars within T of E (R31). -/
def State.candidates (s : State) : List Car :=
  s.ts.train.filter (fun c =>
    c.eye == .unseenYet && decide (distance (c.front s.pc.p) s.cl.constants.eye ≤ s.cl.constants.tolerance))

/-- The candidate that matches: the nearest to E, the older ticket between candidates at equal distance (R31); none without a
candidate. -/
def State.matching (s : State) : Option Ticket :=
  let d := fun (c : Car) => distance (c.front s.pc.p) s.cl.constants.eye
  match s.candidates with
  | [] => none
  | c :: cs =>
    let best := (c :: cs).foldl (fun m c => min m (d c)) (d c)
    some (oldestOf (ticketsOf ((c :: cs).filter (fun c => d c == best))))

/-- E clipped below the older neighbour's front, then above the newer neighbour's (R32). -/
def clipToNeighbours (e : Nat) (older newer : Option Nat) : Nat :=
  let x := match older with
    | some f => if e < f then e else f - 1
    | none => e
  match newer with
  | some f => if f < x then x else f + 1
  | none => x

/-- The correction of a matched car within a train, given its older neighbour's front (R32). -/
def correctCar (p : Pulse) (e : Nat) (t : Ticket) : Option Nat → List Car → List Car
  | _, [] => []
  | older, c :: cs =>
    if c.ticket == t then
      { c.setFront p (clipToNeighbours e older (cs.head?.map (fun n => n.front p))) with eye := .passed } :: cs
    else c :: correctCar p e t (some (c.front p)) cs

/-- The gap check (R33). -/
def State.gapCheck (s : State) : State :=
  match s.ts.lastClear with
  | some m => if (s.pc.p - m).toNat < s.cl.constants.gap then s.raise .closing else s
  | none => s

/-- A broken beam met with the train, at a block edge (R31) or at a start pulse (R35): the block mark set, and the matching
car passed, named and corrected, or UNEXPECTED raised. The gap check is made at a block edge alone. -/
def State.blockAtEye (s : State) (gap : Bool) : State :=
  match s.matching with
  | some t =>
    let s1 := s.setTs { s.ts with
      train := correctCar s.pc.p s.cl.constants.eye t none s.ts.train
      phase := .matched t
      blockMark := some s.pc.p }
    if gap then s1.gapCheck else s1
  | none => (s.setTs { s.ts with phase := .unmatched, blockMark := some s.pc.p }).raise .unexpected

/-- The length check of a clear edge: the observed length against the car's, when it is known (R36). -/
def State.lengthCheck (s : State) (t : Ticket) : State :=
  match s.car t, s.ts.blockMark with
  | some c, some b =>
    match c.length with
    | some l => if s.cl.constants.tolerance < distance (s.pc.p - b).toNat l then s.raise .closing else s
    | none => s
  | _, _ => s

/-- A clear edge met with the train (R36); at the EXIT a matched car departs (R40). -/
def State.clearAtEye (s : State) : State :=
  let s1 := s.setTs { s.ts with lastClear := some s.pc.p }
  let s2 := match s1.ts.phase with
    | .matched t =>
      let s3 := s1.lengthCheck t
      if s3.role == Role.exit then s3.departCar false t else s3
    | _ => s1
  s2.setTs { s2.ts with phase := .clear, blockMark := none }

/-- The sampling of the debounced level at a start pulse (the table of R35). -/
def State.sampleEye (s : State) : State :=
  match s.ts.phase, s.inputs.eye.level with
  | .clear, false => s
  | .clear, true => s.blockAtEye false
  | .unmatched, true => s.blockAtEye false
  | .matched _, true => s
  | .matched _, false => s.clearAtEye
  | .unmatched, false => s.setTs { s.ts with phase := .clear, blockMark := none }

/-! ### Placement (R19, R29) -/

/-- The eye status of a car at placement (R29). -/
def State.statusAtPlacement (s : State) (c : Car) : EyeStatus :=
  if c.synced && s.hasEye && s.pastEye c && s.role != Role.exit then .passed else .unseenYet

/-- The EXIT departs a synced car placed beyond its eye (R29). -/
def State.departsAtPlacement (s : State) (c : Car) : Bool :=
  c.synced && s.hasEye && s.pastEye c && s.role == Role.exit

/-- The interval a place in the train permits for a front: above the newer neighbour, below the older (R19). -/
def permittedInterval (p : Pulse) (at_ : Nat) (cars : List Car) : Int × Int :=
  (match cars[at_]? with
    | some n => (n.front p : Int) + 1
    | none => 0,
   match at_ with
    | 0 => 16383
    | k + 1 => match cars[k]? with
      | some o => (o.front p : Int) - 1
      | none => 16383)

/-- Placement of a car at a place in the list with a requested front (R19): OVERFLOW, CLOSING, or the car stored with its
front clipped, its progress filled and examined (R47), the cars whose run-on that examination ended checked for retirement
(R24, R44), and the eye's checks made (R29, R34). The order of these last is the model's (log entry 35). A ticket the train
holds is not stored a second time (R18; log entry 17). -/
def State.placeCar (s : State) (at_ x : Nat) (base : Car) : State :=
  if s.holds base.ticket then s
  else if Config.trainMax ≤ s.ts.train.length then s.raise .overflow
  else
    let iv := permittedInterval s.pc.p at_ s.ts.train
    if iv.2 < iv.1 then s.raise .closing
    else
      let c := base.setFront s.pc.p (max iv.1 (min x iv.2)).toNat
      let c := fillProgress s.ss s.pc.p { c with eye := s.statusAtPlacement c }
      let s1 := s.setTrain (s.ts.train.take at_ ++ c :: s.ts.train.drop at_)
      let s2 := s1.retireServed (s1.examineOpen [c.ticket])
      if s.departsAtPlacement c then s2.departCar true c.ticket else s2.missingCheck

/-- A car as an ADMIT or an admission brings it: no length, not synced (R20, R156). -/
def freshCar (t : Ticket) (services : ServiceSet) (intensity : Nat) : Car where
  ticket := t
  mark := 0
  length := none
  services := services
  intensity := intensity
  eye := .unseenYet
  progress := []
  reported := false
  synced := false

/-- The place of a SYNC_CAR's ticket by serial order (R197): after every older ticket and before every newer one. Where no
place is so (log entry 4), the free value of Config names one. -/
def syncPlace (t : Ticket) (ts : List Ticket) : Nat :=
  match (List.range (ts.length + 1)).find? (fun k =>
    (ts.take k).all (fun u => !ticketOlder t u) && (ts.drop k).all (fun u => !ticketOlder u t)) with
  | some k => k
  | none => Config.syncPlace t ts % (ts.length + 1)

/-! ### Length (R21, R22) -/

/-- A length fill-in: an absent length of a held car filled within 1 to Lmax, its windows examined (R49), then the retirement
check of every car (R23), oldest first. R22 speaks of that car alone: the wider rule is taken (log entry 35). -/
def State.fillLength (s : State) (t : Ticket) (len : Nat) : State :=
  match s.car t with
  | some c =>
    if c.length.isNone && decide (1 ≤ len) && decide (len ≤ s.cl.constants.lmax) then
      let s1 := (s.setTrain (updateCar t (fun c => { c with length := some len }) s.ts.train)).examineLength t
      s1.retireAll
    else s
  | none => s

/-! ### A pulse (R2, R13, R23, R25, R30, R34, R35) -/

/-- The held flag is cleared at the first pulse after the entry to READY (R30). -/
def State.clearsHold (s : State) : Bool :=
  s.ts.held && (s.hc.runState == .ready || s.hc.runState == .run || s.hc.runState == .standby)

/-- TS takes a pulse, up to its retirement checks: saturation and order, the sampling of a start pulse, the missing check. -/
def State.trainPulse (s : State) (startPulse : Bool) : State :=
  let s1 := s.setTrain (keepOrder s.pc.p none s.ts.train)
  let clears := s1.clearsHold
  let s2 := if clears then s1.setTs { s1.ts with held := false } else s1
  let s3 := if s2.reconciles && (clears || (startPulse && !s2.ts.held)) then s2.sampleEye else s2
  s3.missingCheck

/-! ### Clearing (R28) -/

/-- The train emptied and the reconciler returned to CLEAR; every run-on is cancelled with its car (R28, R51). -/
def State.emptyTrain (s : State) : State :=
  ((s.setTs { s.ts with train := [], phase := .clear, blockMark := none, lastClear := none }).setSs
    (s.ss.map (fun ch => { ch with runOnCar := none, runOn := Pace.idle }))).refreshAll false

/-- The lost departures of the EXIT: every UNSEEN car, oldest first (R41). -/
def State.lostDepartures (s : State) : State :=
  (ticketsOf (s.ts.train.filter (fun c => c.eye == .unseen))).foldl (State.departCar · true) s

end Sys2Proof.Machine
end

