-- ==== Sys2Proof/Machine/Water.lean ====
section
/-! DEFINITION. The flow budget unit, FB, and the purge scheduler, PS (chapter 4). -/

namespace Sys2Proof.Machine

open Sys2Proof

/-! ### The claim (R67, R68) -/

/-- The tickets of the cars ACTIVE at channel i. -/
def activeTickets (i : Nat) (cars : List Car) : List Ticket :=
  ticketsOf (cars.filter (fun c => c.progressAt i == .active))

/-- The stamp of a spray: the newest ticket among the cars ACTIVE at it (R73). -/
def sprayStamp (i : Nat) (cars : List Car) : Ticket := newestOf (activeTickets i cars)

/-- The channel is an OPEN spray. -/
def Channel.isOpenSpray (ch : Channel) : Bool := ch.cfg.kind == .spray && ch.state == .opened

/-- The newest ticket: the newest among the cars ACTIVE at an OPEN spray (R67). -/
def State.newestServed (s : State) : Ticket :=
  newestOf (s.ss.zipIdx.flatMap (fun y => if y.1.isOpenSpray then activeTickets y.2 s.ts.train else []))

/-- The FLOW frame with FB's values (R68). -/
def State.flowFrame (s : State) : Frame := .flow (byte s.fb.claim) s.fb.newest

/-- FB recomputes its two values, and queues a FLOW where they have changed (R67, R68). -/
def State.syncFlow (s : State) : State :=
  if s.fb.claim = claimOf s.ss ∧ s.fb.newest = s.newestServed then s
  else
    let s1 := s.setFb ⟨claimOf s.ss, s.newestServed⟩
    s1.queue s1.flowFrame

/-- The total of the view of claims (R69). -/
def State.totalClaim (s : State) : Nat := s.fb.claim + s.peerClaims

/-! ### Shedding (R71, R72, R73) -/

/-- A stamp (R71). -/
inductive Stamp where
  | oldestPossible
  | ticket (t : Ticket)
  | newestPossible
  deriving DecidableEq, Repr

/-- Stamp a is newer than stamp b (R71). -/
def Stamp.newer (a b : Stamp) : Bool :=
  match a, b with
  | .newestPossible, .newestPossible => false
  | .newestPossible, _ => true
  | .ticket _, .oldestPossible => true
  | .ticket x, .ticket y => ticketOlder y x
  | _, _ => false

/-- Two stamps count as equal: neither is newer (R71). -/
def Stamp.equal (a b : Stamp) : Bool := !a.newer b && !b.newer a

/-- The station's own stamp (R71). -/
def State.ownStamp (s : State) : Stamp :=
  match s.ps.purge with
  | .normal => .newestPossible
  | .forced => .oldestPossible
  | .none => .ticket s.fb.newest

/-- A peer's stamp: its newest ticket, or OLDEST-POSSIBLE when that is 0 (R71). -/
def Peer.stamp (r : Peer) : Stamp := if r.newest = 0 then .oldestPossible else .ticket r.newest

/-- The station qualifies to shed (R72). -/
def State.qualifiesToShed (s : State) : Bool :=
  decide (s.cl.constants.budget < s.totalClaim) && s.fb.claim != 0 && s.ps.purge != .forced &&
    s.pt.peers.all (fun r => r.claim == 0 || s.ownStamp.newer r.stamp ||
      (s.ownStamp.equal r.stamp && decide (r.station < s.cl.constants.station)))

/-- The spray to shed: the OPEN spray of newest stamp, the higher channel number between equal stamps (R73). -/
def State.sprayToShed (s : State) : Option Nat :=
  let sprays := (s.ss.zipIdx.filter (fun y => y.1.isOpenSpray)).map (fun y => y.2)
  let newest := newestOf (sprays.map (fun i => sprayStamp i s.ts.train))
  (sprays.filter (fun i => sprayStamp i s.ts.train == newest)).getLast?

/-- The purge over, its sprays take up their states afresh in channel order, each tested on the total that the end of the
purge left (R63, R73, R77), and FB recomputes. -/
def State.returnSprays (s : State) : State :=
  let purged := (s.ss.zipIdx.filter (fun y => y.1.state == .purging)).map (fun y => y.2)
  let s1 := s.setSs (s.ss.map (fun ch => if ch.state == .purging then { ch with state := .closed } else ch))
  (purged.foldl State.takeUpAt s1).syncFlow

/-- A running purge ends without paying (R79, R80, R81): the duration counter cancelled, the purge state none. -/
def State.cancelPurge (s : State) : State := s.setPs { s.ps with duration := Pace.idle, purge := .none }

/-- A DEFERRED spray makes the engagement test again (R62). -/
def State.retryAt (s : State) (i : Nat) : State :=
  match s.ss[i]? with
  | some ch => if ch.cfg.kind == .spray && ch.state == .deferred then s.refresh true i else s
  | none => s

/-- The retries of the DEFERRED sprays in channel order (R69). -/
def State.retrySprays (s : State) : State := s.eachChannel State.retryAt

/-! ### The purge (4.5) -/

/-- PS is active: at an ARCH station with at least one spray channel (R74). -/
def State.purgeActive (s : State) : Bool :=
  s.active && s.role == .arch && s.ss.any (fun ch => ch.cfg.kind == .spray)

/-- A purge starts (R77): the kind, the duration, every spray PURGING; a forced purge makes each car ACTIVE at a spray MISSED
there (R63, R78). -/
def State.startPurge (s : State) (kind : PurgeState) : State :=
  let sprays := (s.ss.zipIdx.filter (fun y => y.1.cfg.kind == .spray && y.1.state != .suspended)).map (fun y => y.2)
  let cars := if kind == .forced then
      s.ts.train.map (fun c => sprays.foldl (fun c i =>
        c.modifyEntry i (fun e => if e.value == .active then { e with value := .missed } else e)) c)
    else s.ts.train
  let s1 := s.setPs { s.ps with purge := kind, duration := Pace.load s.cl.constants.purgeDuration }
  let s2 := (s1.setTrain cars).setSs (s.ss.map (fun ch =>
    if ch.cfg.kind == .spray && ch.state != .suspended then { ch with state := .purging } else ch))
  s2.flushReports.syncFlow

/-- The forced-purge test (R78). -/
def State.forcedTest (s : State) : State :=
  if s.purgeActive && s.ps.debt == 4 && s.ps.purge == .none && !s.halted then s.startPurge .forced else s

/-- One shed (R73): a normal purge returned to pending (R81), after which a debt of 4 brings a forced one (R78), or the
newest OPEN spray DEFERRED. -/
def State.shedOnce (s : State) : State :=
  if s.ps.purge == .normal then s.cancelPurge.returnSprays.forcedTest
  else
    match s.sprayToShed with
    | some i =>
      match s.ss[i]? with
      | some ch => (s.setChannel i { ch with state := .deferred }).syncFlow
      | none => s
    | none => s

/-- The shed test, made again after each shed, at most n times (R72). -/
def State.shedTest (s : State) : Nat → State
  | 0 => s
  | n + 1 => if s.qualifiesToShed then s.shedOnce.shedTest n else s

/-- The most sheds one action can make: one for each channel, and one for a purge. -/
def State.shedBound (s : State) : Nat := s.ss.length + 1

/-- The sum of the demands of all the station's sprays (R70, R76). -/
def State.purgeDemand (s : State) : Nat := ((s.ss.filter (fun ch => ch.cfg.kind == .spray)).map (fun ch => ch.cfg.demand)).sum

/-- A spray of the station has a window open. -/
def State.sprayWindowOpen (s : State) : Bool :=
  s.ss.zipIdx.any (fun y => y.1.cfg.kind == .spray && windowOpen y.2 s.ts.train)

/-- The conditions under which a normal purge starts (R76). -/
def State.mayPurge (s : State) : Bool :=
  s.purgeActive && s.ps.purge == .none && (decide (0 < s.ps.debt) || s.ps.request) && decide (s.ps.debt < 4) &&
    s.ss.all (fun ch => ch.cfg.kind != .spray || (ch.state != .opened && ch.state != .deferred)) &&
    !s.sprayWindowOpen && !s.halted && s.fits s.purgeDemand

/-- The start test for a normal purge (R76). -/
def State.startTest (s : State) : State := if s.mayPurge then s.startPurge .normal else s

/-- The conditions whose change is an occasion for the start test (R76): debt and request, spray states, spray windows, H or P
in the view. -/
def State.purgeInputs (s : State) : Nat × Bool × List ChannelState × List (List Ticket) × Bool :=
  (s.ps.debt, s.ps.request, (s.ss.filter (fun ch => ch.cfg.kind == .spray)).map (fun ch => ch.state),
    (s.ss.zipIdx.filter (fun y => y.1.cfg.kind == .spray)).map (fun y => activeTickets y.2 s.ts.train), s.halted)

/-- The request of a console PURGE (R82). -/
def State.requestPurge (s : State) : State :=
  if s.purgeActive then s.setPs { s.ps with request := true } else s

/-- A purge completes (R77): the debt paid, the request cleared, the sprays returned, and the two tests made. -/
def State.completePurge (s : State) : State :=
  let s1 := s.setPs { s.ps with
    debt := s.ps.debt - 1, request := false, duration := Pace.idle, purge := .none }
  s1.returnSprays.forcedTest

/-- FREEZE asserted, at the debounced edge or as the level stands when PS starts work (R74, R75). -/
def State.freezeOn (s : State) : State :=
  if s.purgeActive then s.setPs { s.ps with interval := Pace.load s.cl.constants.purgeInterval } else s

/-- FREEZE deasserted (R80): the interval cancelled, debt and request cleared, a running purge ended. -/
def State.freezeOff (s : State) : State :=
  if s.purgeActive then
    let s1 := s.setPs { s.ps with interval := Pace.idle, debt := 0, request := false }
    if s1.ps.purge == .none then s1 else s1.cancelPurge.returnSprays
  else s

end Sys2Proof.Machine
end

