-- ==== Sys2Proof/Machine/Sales.lean ====
section
/-! DEFINITION. The sales unit, SU (chapters 6 and 7): the price computation, sales, lane queues and the credit table. -/

namespace Sys2Proof.Machine

open Sys2Proof

/-! ### Price computation (6.2) -/

/-- A plan slot by its number, 1 to 12 (R112, R118). -/
def Catalogue.plan (k : Catalogue) (n : Nat) : Option Plan := if n = 0 then none else (k.plans[n - 1]?).join

/-- An add-on slot by its number, 1 to 8 (R113). -/
def Catalogue.addOn (k : Catalogue) (n : Nat) : Option AddOn := if n = 0 then none else (k.addOns[n - 1]?).join

/-- The numbers of an add-on set, add-on n in bit n - 1 (11.7). -/
def addOnNumbers (x : Byte) : List Nat := ((List.range 8).filter (fun i => x.getLsbD i)).map (· + 1)

/-- The add-on may be sold with the plan (R113, R118). -/
def Catalogue.allows (k : Catalogue) (plan n : Nat) : Bool :=
  match k.addOn n with
  | some a => a.allowed.getLsbD plan
  | none => false

/-- Stage 1: the choice is offered (R118). -/
def Catalogue.offers (k : Catalogue) (plan : Nat) (addOns : Byte) (tier : Nat) : Bool :=
  (k.plan plan).isSome && decide (tier ≤ 3) && (addOnNumbers addOns).all (k.allows plan)

/-- A service set wholly contained in another (R119). -/
def containedIn (x y : ServiceSet) : Bool := x &&& ~~~ y == 0

/-- The retained add-ons of stage 2 (R119). -/
def Catalogue.retained (k : Catalogue) (pl : Plan) (addOns : Byte) : List AddOn :=
  ((addOnNumbers addOns).filterMap k.addOn).filter (fun a => !containedIn a.services pl.included)

/-- The subtotal (R120). -/
def subtotalOf (pl : Plan) (kept : List AddOn) : Nat := satMoney (pl.price + (kept.map (fun a => a.price)).sum)

/-- The discount (R121). -/
def discountOf (subtotal percent : Nat) : Nat := subtotal * percent / 100

/-- The price ceiling of a rounding unit (R116). -/
def priceCeiling (u : Nat) : Nat := Config.moneyMax / u * u

/-- The net price: rounded up to a multiple of the unit, the ceiling where that exceeds 65,535 (R122). -/
def netOf (n u : Nat) : Nat :=
  if Config.moneyMax < (n + u - 1) / u * u then priceCeiling u else (n + u - 1) / u * u

/-- The entry of a ticket in the credit table. -/
def creditOf (t : Ticket) (l : List Credit) : Option Credit := l.find? (fun e => e.ticket == t)

/-- Stage 4: the applied credit, none where the SELECT is refused with NO_CREDIT (R123). -/
def appliedCredit (credit : Ticket) (net : Nat) (l : List Credit) : Option Nat :=
  if credit = 0 then some 0
  else
    match creditOf credit l with
    | some e => if e.isOpen then none else some (min e.amount net)
    | none => none

/-- The figures of a price (R117). -/
structure Price where
  result : QuoteResult
  subtotal : Nat
  net : Nat
  applied : Nat
  due : Nat
  services : ServiceSet
  intensity : Nat
  deriving DecidableEq, Repr

/-- A price refused at the offer check carries no figures (R125). -/
def Price.notOffered : Price := ⟨.notOffered, 0, 0, 0, 0, 0, 0⟩

/-- The price computation (R117 to R126). -/
def Catalogue.price (k : Catalogue) (plan : Nat) (addOns : Byte) (tier : Nat) (credit : Ticket) (l : List Credit) : Price :=
  match k.plan plan with
  | none => Price.notOffered
  | some pl =>
    if k.offers plan addOns tier then
      let kept := k.retained pl addOns
      let subtotal := subtotalOf pl kept
      let net := netOf (subtotal - discountOf subtotal (k.tiers.getD tier 0)) k.rounding
      let services := kept.foldl (fun x a => x ||| a.services) pl.included
      match appliedCredit credit net l with
      | some applied => ⟨.quoted, subtotal, net, applied, net - applied, services, pl.intensity⟩
      | none => ⟨.noCredit, subtotal, net, 0, net, services, pl.intensity⟩
    else Price.notOffered

/-! ### The credit table (7.3) -/

/-- One entry changed. -/
def updateCredit (t : Ticket) (f : Credit → Credit) (l : List Credit) : List Credit :=
  l.map (fun e => if e.ticket == t then f e else e)

/-- The entry of a ticket removed. -/
def removeCredit (t : Ticket) (l : List Credit) : List Credit := l.filter (fun e => e.ticket != t)

/-- The oldest REDEEMABLE entry evicted when the table is full (R142). -/
def evictFor (l : List Credit) : List Credit :=
  if l.length < Config.creditMax then l
  else removeCredit (oldestOf ((l.filter (fun e => !e.isOpen)).map (fun e => e.ticket))) l

/-- An entry created (R142). A table still full, all its entries OPEN, cannot arise (R142) and takes no entry. -/
def addCredit (e : Credit) (l : List Credit) : List Credit :=
  if (evictFor l).length < Config.creditMax then evictFor l ++ [e] else evictFor l

/-- The in-tunnel count: the number of OPEN entries (R142, R161). -/
def openCount (l : List Credit) : Nat := (l.filter (fun e => e.isOpen)).length

/-- The in-tunnel count of the station. -/
def State.inTunnel (s : State) : Nat := openCount s.su.credits

/-- A ticket stands in a lane queue. -/
def SalesUnit.queued (u : SalesUnit) (t : Ticket) : Bool :=
  u.laneA.queue.any (fun x => x.ticket == t) || u.laneB.queue.any (fun x => x.ticket == t)

/-- The applied credit of a sale restored to its entry (R139). -/
def SalesUnit.restore (u : SalesUnit) (x : Sale) : SalesUnit :=
  if x.creditTicket = 0 then u
  else
    match creditOf x.creditTicket u.credits with
    | some e =>
      if e.isOpen || u.queued x.creditTicket then u
      else { u with credits := updateCredit x.creditTicket (fun e => { e with amount := min (e.amount + x.applied) e.cap }) u.credits }
    | none =>
      if u.queued x.creditTicket then u
      else { u with credits := addCredit ⟨x.creditTicket, x.creditCap, 0, x.applied, false⟩ u.credits }

/-- The draw of a new sale on its entry (R132): the amount lowered, the entry removed at 0. -/
def drawCredit (t : Ticket) (applied : Nat) (l : List Credit) : List Credit :=
  (updateCredit t (fun e => { e with amount := e.amount - applied }) l).filter (fun e => !(e.ticket == t && e.amount == 0))

/-- A REPORT's missed codes credited to an entry (R144). -/
def Credit.addCodes (values : List Nat) (missed : ServiceSet) (e : Credit) : Credit :=
  (List.range 16).foldl (fun e c =>
    if missed.getLsbD c && !e.credited.getLsbD c then
      { e with credited := e.credited ||| codeBit c, amount := min (e.amount + values.getD c 0) e.cap }
    else e) e

/-- A DEPART settles an entry (R145). -/
def settleCredit (t : Ticket) (lost : Bool) (l : List Credit) : List Credit :=
  if lost then updateCredit t (fun e => { e with amount := e.cap, isOpen := false }) l
  else (updateCredit t (fun e => { e with isOpen := false }) l).filter (fun e => !(e.ticket == t && e.amount == 0))

/-- An accepted CLEAR_TRAIN settles every OPEN entry at its cap (R146). -/
def clearCredits (l : List Credit) : List Credit :=
  l.map (fun e => if e.isOpen then { e with amount := e.cap, isOpen := false } else e)

/-! ### Tickets (R135) -/

/-- A candidate is passed over when it stands in a lane queue or its entry is OPEN. -/
def SalesUnit.passedOver (u : SalesUnit) (t : Ticket) : Bool :=
  u.queued t || u.credits.any (fun e => e.ticket == t && e.isOpen)

/-- The first candidate from t on that is not passed over, within n. -/
def SalesUnit.findTicket (u : SalesUnit) : Nat → Ticket → Ticket
  | 0, t => t
  | n + 1, t => if u.passedOver t then u.findTicket n (nextTicket t) else t

/-- The tickets that could be passed over bound the search: at most eight queued and 24 OPEN (R135). -/
def SalesUnit.searchBound (u : SalesUnit) : Nat := u.laneA.queue.length + u.laneB.queue.length + u.credits.length

/-- The next ticket issued: recorded as the last issued, its REDEEMABLE entry evicted (R135). -/
def SalesUnit.issue (u : SalesUnit) : Ticket × SalesUnit :=
  let t := u.findTicket u.searchBound (nextTicket u.lastTicket)
  (t, { u with lastTicket := t, credits := removeCredit t u.credits })

/-! ### Frames of SU -/

/-- A QUOTE (R125, 7.1). -/
def quoteFrame (l : Lane) (sale : SaleNo) (r : QuoteResult) (subtotal applied due : Nat) : Frame :=
  .quote (laneCode l) sale r.code (half subtotal) (half applied) (half due)

/-- A VOID (7.1). -/
def voidFrame (l : Lane) (sale : SaleNo) (r : VoidReason) (refund : Nat) : Frame :=
  .void (laneCode l) sale r.code (half refund)

/-- What SU keeps for a lane changed. -/
def State.setLane (s : State) (l : Lane) (x : LaneSales) : State := s.setSu (s.su.setLane l x)

/-- The open sale of a lane. -/
def State.openSale (s : State) (l : Lane) : Option Sale := (s.su.lane l).openSale

/-! ### The steps of a sale -/

/-- The lane's PRICED sale voided: the timeout cancelled, the credit restored, the VOID queued, the sale discarded (R131,
R137, R138). -/
def State.voidOpen (s : State) (l : Lane) (x : Sale) (r : VoidReason) (refund : Nat) : State :=
  let s1 := s.setLane l { s.su.lane l with openSale := none, timeout := Pace.idle }
  (s1.setSu (s1.su.restore x)).queue (voidFrame l x.number r refund)

/-- The PRICED sale becomes PAID (R134). -/
def State.payOpen (s : State) (l : Lane) (x : Sale) : State :=
  let issued := s.su.issue
  let paid := { x with ticket := issued.1, change := x.tendered - x.due, state := .paid }
  let s1 := s.setSu issued.2
  let s2 := s1.queue (.paid (laneCode l) x.number issued.1 (half paid.change))
  let lane := s2.su.lane l
  s2.setLane l { lane with openSale := none, timeout := Pace.idle, queue := lane.queue ++ [paid] }

/-- The credit cap a new sale records: that of the entry it draws on, 0 with no credit ticket (7.1, R132). -/
def capDrawnOn (credit : Ticket) (l : List Credit) : Nat :=
  if credit = 0 then 0
  else
    match creditOf credit l with
    | some e => e.cap
    | none => 0

/-- A QUOTED price makes a sale (R132), and a due of 0 pays it at once (R134). -/
def State.makeSale (s : State) (l : Lane) (credit : Ticket) (pr : Price) : State :=
  let n := nextSale s.su.lastSale
  let x : Sale := ⟨n, credit, pr.applied, capDrawnOn credit s.su.credits, pr.subtotal, pr.net, pr.due, pr.services,
    pr.intensity, 0, 0, 0, 0, .priced⟩
  let credits := if credit = 0 then s.su.credits else drawCredit credit pr.applied s.su.credits
  let s1 := s.setSu { s.su with lastSale := n, credits := credits }
  let s2 := (s1.setLane l { s1.su.lane l with openSale := some x, timeout := Pace.load s.cl.constants.saleTimeout }).queue
    (quoteFrame l n .quoted pr.subtotal pr.applied pr.due)
  if pr.due = 0 then s2.payOpen l x else s2

/-- A SELECT that has passed the checks of R130: the lane's PRICED sale replaced (R131), the price computed (R117), the sale
made or the refusal answered (R132). -/
def State.priceSelect (s : State) (l : Lane) (plan addOns tier : Byte) (credit : Ticket) : State :=
  let s1 := match s.openSale l with
    | some x => s.voidOpen l x .replaced 0
    | none => s
  let pr := s1.su.catalogue.price plan.toNat addOns tier.toNat credit s1.su.credits
  if pr.result = .quoted then s1.makeSale l credit pr
  else s1.queue (quoteFrame l 0 pr.result pr.subtotal pr.applied pr.due)

/-- The run state takes a SELECT: READY, RUN or STANDBY (R130). -/
def RunState.sells : RunState → Bool
  | .ready => true
  | .run => true
  | .standby => true
  | _ => false

/-- A SELECT taken under R129 (R130). -/
def State.takeSelect (s : State) (l : Lane) (plan addOns tier : Byte) (credit : Ticket) : State :=
  if !s.hc.runState.sells then s.queue (quoteFrame l 0 .notReady 0 0 0)
  else if Config.laneMax ≤ (s.su.lane l).queue.length then s.queue (quoteFrame l 0 .laneFull 0 0 0)
  else
    match s.openSale l with
    | some x =>
      if 0 < x.tendered then s.queue (quoteFrame l x.number .busy 0 0 0) else s.priceSelect l plan addOns tier credit
    | none => s.priceSelect l plan addOns tier credit

/-- A TENDER taken under R129 (R133, R136). -/
def State.takeTender (s : State) (l : Lane) (sale : SaleNo) (amount : Nat) : State :=
  match s.openSale l with
  | some x =>
    if x.number = sale then
      let y := { x with tendered := satMoney (x.tendered + amount) }
      let s1 := s.setLane l { s.su.lane l with openSale := some y, timeout := Pace.load s.cl.constants.saleTimeout }
      if y.tendered < y.due then s1 else s1.payOpen l y
    else s.queue (voidFrame l sale .late amount)
  | none => s.queue (voidFrame l sale .late amount)

/-- The PAID sale of a queue that bears a number and is not CALLED (R138), the nearest to the head (log entry 39). -/
def findPaid (sale : SaleNo) (q : List Sale) : Option Sale := q.find? (fun x => x.number == sale && x.state == .paid)

/-- A CANCEL taken under R129 (R138). Sale numbers come round again, so two sales of a lane may bear one number, which R138 does
not speak of: the open sale is cancelled before a PAID one, and of two PAID ones the nearer to the head, alone. Tickets come
round too: a PAID sale whose own ticket is its credit ticket has left its queue when its credit is restored, so R139 makes the
entry that R138 says is not made for it: DESIGN CHOICE (log entry 39). -/
def State.takeCancel (s : State) (l : Lane) (sale : SaleNo) : State :=
  let queued := match findPaid sale (s.su.lane l).queue with
    | some x =>
      let s1 := s.setLane l { s.su.lane l with
        queue := (s.su.lane l).queue.eraseP (fun y => y.number == sale && y.state == .paid) }
      (s1.setSu (s1.su.restore x)).queue (voidFrame l sale .cancelled (x.tendered - x.change))
    | none => s.queue (quoteFrame l sale .tooLate 0 0 0)
  match s.openSale l with
  | some x => if x.number = sale then s.voidOpen l x .cancelled x.tendered else queued
  | none => queued

/-- The head sale of a lane queue changed (R140). -/
def State.updateHead (s : State) (l : Lane) (f : Sale → Sale) : State :=
  match (s.su.lane l).queue with
  | [] => s
  | x :: xs => s.setLane l { s.su.lane l with queue := f x :: xs }

/-- A call timeout at SU (R140, R141): the sale returns to PAID with one more, and the third abandons it for a credit at its
net. -/
def State.timeOutHead (s : State) (l : Lane) : State :=
  match (s.su.lane l).queue with
  | [] => s
  | x :: xs =>
    if 3 ≤ x.callTimeouts + 1 then
      let s1 := s.setLane l { s.su.lane l with queue := xs }
      s1.setSu { s1.su with credits := addCredit ⟨x.ticket, x.net, 0, x.net, false⟩ s1.su.credits }
    else s.setLane l { s.su.lane l with queue := { x with callTimeouts := x.callTimeouts + 1, state := .paid } :: xs }

/-- The admission of a sale at SU (R143): its credit entry OPEN at its net, the sale out of its queue. -/
def State.admitHead (s : State) (l : Lane) (x : Sale) : State :=
  let s1 := s.setSu { s.su with credits := addCredit ⟨x.ticket, x.net, 0, 0, true⟩ s.su.credits }
  s1.setLane l { s1.su.lane l with queue := (s1.su.lane l).queue.tail }

/-- SU's part of a RESTART for one lane (R147): a PRICED sale voided with a pending answer, a CALLED sale PAID again. -/
def SalesUnit.restartLane (u : SalesUnit) (l : Lane) : SalesUnit :=
  let lane := u.lane l
  let queue := lane.queue.map (fun x => if x.state == .called then { x with state := .paid } else x)
  match lane.openSale with
  | some x =>
    (u.setLane l { lane with
      openSale := none, timeout := Pace.idle, queue := queue, pendingVoid := some ⟨x.number, x.tendered⟩ }).restore x
  | none => u.setLane l { lane with timeout := Pace.idle, queue := queue }

/-- The pending answer of a lane queued and cleared at the entry to JOINING (R147). -/
def State.answerPending (s : State) (l : Lane) : State :=
  match (s.su.lane l).pendingVoid with
  | some v => (s.setLane l { s.su.lane l with pendingVoid := none }).queue (voidFrame l v.sale .restart v.refund)
  | none => s

end Sys2Proof.Machine
end

