-- ==== Sys2Proof/Machine/Admission.lean ====
section
/-! DEFINITION. The admission controller, AC (chapter 8). -/

namespace Sys2Proof.Machine

open Sys2Proof

/-- The head of a lane queue (R140). -/
def State.head (s : State) (l : Lane) : Option Sale := (s.su.lane l).queue.head?

/-- The lane is a candidate: its queue has a head and its presence input is active (R152). -/
def State.candidate (s : State) (l : Lane) : Bool := (s.head l).isSome && s.presence l

/-- The lane arbiter's choice (R152). -/
def State.arbiter (s : State) : Option Lane :=
  let x := s.ac.turn
  let y := otherLane x
  if s.candidate x && s.candidate y then
    some (if s.cl.constants.fairness ≤ s.ac.skip y then y else x)
  else if s.candidate x then some x
  else if s.candidate y then some y
  else none

/-- The latest beacon taken from the station of a role shows RUN (R107, R109, R151). -/
def State.roleRuns (s : State) (r : Role) : Bool :=
  match s.peerOfRole r with
  | some x => x.reported == some .run
  | none => false

/-- The conditions of the call test but for the arbiter (R151). -/
def State.mayCall (s : State) : Bool :=
  s.ac.gate == .shut && s.hc.runState == .run && s.grade.isNone && s.roleRuns .drive &&
    decide (s.inTunnel < s.ac.limit) && !s.inputs.eye.level

/-- A call begins (R154). -/
def State.beginCall (s : State) (l : Lane) : State :=
  (s.setAc { s.ac with gate := .calling l, callTimeout := Pace.load s.cl.constants.callTimeout }).updateHead l
    (fun x => { x with state := .called })

/-- The call test (R151). -/
def State.callTest (s : State) : State :=
  if s.mayCall then
    match s.arbiter with
    | some l => s.beginCall l
    | none => s
  else s

/-- A call withdrawn (R155). -/
def State.withdrawCall (s : State) : State :=
  match s.ac.gate with
  | .calling l =>
    (s.setAc { s.ac with gate := .shut, callTimeout := Pace.idle }).updateHead l (fun x => { x with state := .paid })
  | _ => s

/-- The changes of the turn and the skip counters at an admission from lane x (R153). -/
def State.turnAfterAdmission (s : State) (x : Lane) : State :=
  let y := otherLane x
  let ac1 := { s.ac with turn := otherLane s.ac.turn }
  let ac2 := if s.candidate y then ac1.setSkip y (min (ac1.skip y + 1) 7) else ac1
  s.setAc (ac2.setSkip x 0)

/-- Admission, in the order of R156: the gate and the entering record, SU's part, the placement, the ADMIT, the turn. -/
def State.admitCalled (s : State) (l : Lane) : State :=
  match s.head l with
  | none => s
  | some x =>
    let s1 := s.setAc { s.ac with gate := .entering ⟨x.ticket, l, s.pc.p⟩, callTimeout := Pace.idle }
    let s2 := s1.admitHead l x
    let s3 := s2.placeCar s2.ts.train.length 0 (freshCar x.ticket x.services x.intensity)
    let s4 := s3.queueAdmit
      (.admitCar x.ticket (deltaAt s3.pc.p s3.pc.p) x.services (byte x.intensity) (laneCode l)) s3.pc.p
    s4.turnAfterAdmission l

/-- A block edge of the entry eye (the table of R150; R156, R158). -/
def State.entryBlock (s : State) : State :=
  match s.ac.gate with
  | .calling l => s.admitCalled l
  | .entering _ => s
  | _ => if s.stationary then s else s.raise .unexpected

/-- The end of an entry (R159): the length measured and queued, filled in here, LONG where it exceeds Lmax, and the
admission gap begun. -/
def State.endEntry (s : State) (r : Entering) : State :=
  let len := min (s.pc.p - r.entryMark).toNat 1023
  let s1 := (s.queue (.length r.ticket (half len))).fillLength r.ticket len
  let s2 := if s1.cl.constants.lmax < len then s1.raise .long else s1
  s2.setAc { s2.ac with gate := .spacing, gap := Pace.load s2.cl.constants.admissionGap }

/-- A clear edge of the entry eye (the table of R150). -/
def State.entryClear (s : State) : State :=
  match s.ac.gate with
  | .entering r => s.endEntry r
  | _ => s

/-- The start pulse at the entry eye: a beam already broken with the gate SHUT or SPACING (R150). -/
def State.entryStartPulse (s : State) : State :=
  match s.ac.gate with
  | .shut => if s.inputs.eye.level then s.raise .unexpected else s
  | .spacing => if s.inputs.eye.level then s.raise .unexpected else s
  | _ => s

/-- A call timeout (R162). -/
def State.callTimesOut (s : State) : State :=
  match s.ac.gate with
  | .calling l => (s.setAc { s.ac with gate := .shut, callTimeout := Pace.idle }).timeOutHead l
  | _ => s

/-- AC's part of an accepted CLEAR_TRAIN (R163): an entry or a spacing is cut off. -/
def State.clearGate (s : State) : State :=
  match s.ac.gate with
  | .entering _ => s.setAc { s.ac with gate := .shut, gap := Pace.idle }
  | .spacing => s.setAc { s.ac with gate := .shut, gap := Pace.idle }
  | _ => s

/-- The conditions whose change is an occasion for the call test (R151): gate SHUT, run state, view without a cause, each
lane's head and presence. -/
def State.callInputs (s : State) : Bool × RunState × Bool × List (Option Ticket × Bool) :=
  (s.ac.gate == .shut, s.hc.runState, s.grade.isNone,
    [((s.head .a).map (fun x => x.ticket), s.presence .a), ((s.head .b).map (fun x => x.ticket), s.presence .b)])

/-- A skip counter becomes 0 when its lane's head has changed (R153). -/
def State.resetSkip (s before : State) (l : Lane) : State :=
  if (before.head l).map (fun x => x.ticket) = (s.head l).map (fun x => x.ticket) then s else s.setAc (s.ac.setSkip l 0)

/-- The limit in force lowered when the in-tunnel count has fallen (R161). -/
def State.lowerLimit (s before : State) : State :=
  if s.inTunnel < before.inTunnel then
    s.setAc { s.ac with limit := max s.cl.constants.admissionLimit s.inTunnel }
  else s

end Sys2Proof.Machine
end

