-- ==== Sys2Proof/Machine/Peers.lean ====
section
/-! DEFINITION. The peer table, PT, and both sides of train synchronisation (chapter 10), with the beacons a station sends. -/

namespace Sys2Proof.Machine

open Sys2Proof

/-! ### Beacons (R186, R205) -/

/-- The contents of a BEACON from JOINING on, as the values stand (R186). -/
def State.liveBeacon (s : State) : Frame :=
  .beacon (roleStateByte s.role s.hc.runState s.ts.syncFailed) (s.hc.own.setWidth 24) (byte s.ts.train.length) s.pc.p
    (byte s.fb.claim) s.fb.newest s.cl.constants.digest (byte (if s.role = .entry then s.inTunnel else 0))

/-- The set of MISMATCH alone. -/
def mismatchOnly : CauseSet := addCause 0 .mismatch

/-- The contents of a BEACON in CONFIG_FAULT (R205). -/
def State.faultBeacon (s : State) : Frame :=
  .beacon (roleStateByte s.cl.faultRole .configFault false) (mismatchOnly.setWidth 24) 0 s.pc.p 0 0 0 0

/-- The contents of a BEACON of this station now. -/
def State.beaconFrame (s : State) : Frame := if s.hc.runState = .configFault then s.faultBeacon else s.liveBeacon

/-! ### Hearing, joining, syncing -/

/-- The keeper a joiner asks: the DRIVE asks the EXIT, every other station the DRIVE (R194). -/
def State.keeperToAsk (s : State) : Nat :=
  match s.peerOfRole (if s.role = .drive then .exit else .drive) with
  | some r => r.station
  | none => 0

/-- The entry to SYNCING (R194). -/
def State.enterSyncing (s : State) : State :=
  let k := s.keeperToAsk
  let s1 := s.setTs { s.ts with keeper := k, received := 0, sync := Pace.load Config.syncTime }
  (s1.setRunState .syncing).queue (.syncReq (byte k))

/-- The entry to READY (R190, R198): a record already silent raises SILENT. -/
def State.enterReady (s : State) : State :=
  let s1 := s.setRunState .ready
  if s1.anySilent then s1.raise .silent else s1

/-- The end of a sync (R198). -/
def State.endSync (s : State) (failed : Bool) : State :=
  (s.setTs { s.ts with sync := Pace.idle, syncFailed := s.ts.syncFailed || failed }).enterReady

/-- A frame from an expected station hears it (R189), and the last one heard ends JOINING (R193). -/
def State.hear (s : State) (o : Origin) : State :=
  let s1 := s.updatePeer o.toNat (fun r => { r with heard := true, age := 0 })
  if s.hc.runState = .joining && s1.pt.peers.any (fun r => r.station == o.toNat) && s1.pt.peers.all (fun r => r.heard) then
    (s1.setPt { s1.pt with join := Pace.idle }).enterSyncing
  else s1

/-! ### A keeper's answers (R195, R196) -/

/-- The next car of an answer: the oldest of the tickets newer than the last sent, of all tickets before any (R196). -/
def nextToSend (last : Ticket) (cars : List Car) : Option Car :=
  let ts := (ticketsOf cars).filter (fun t => last == 0 || ticketOlder last t)
  if ts = [] then none else cars.find? (fun c => c.ticket == oldestOf ts)

/-- One step for the first answer of the list, while the queue has four free places (R196). -/
def State.answerStep (s : State) : State :=
  match s.ts.answers with
  | [] => s
  | a :: rest =>
    if s.lp.freePlaces < 4 then s
    else
      match nextToSend a.last s.ts.train with
      | some c =>
        (s.setTs { s.ts with answers := { a with last := c.ticket, count := a.count + 1 } :: rest }).queue
          (.syncCar (byte a.joiner) c.ticket (half (c.front s.pc.p)) (half (c.length.getD 0)) c.services (byte c.intensity))
      | none => (s.setTs { s.ts with answers := rest }).queue (.syncEnd (byte a.joiner) (byte a.count))

/-- A request entered in the answer list: appended, or begun afresh in its place (R195). -/
def enterAnswer (joiner : Nat) (l : List Answer) : List Answer :=
  if l.any (fun a => a.joiner == joiner) then
    l.map (fun a => if a.joiner == joiner then ⟨joiner, 0, 0⟩ else a)
  else l ++ [⟨joiner, 0, 0⟩]

/-- A SYNC_REQ from an expected station (R195), with the step of R196 that its action takes. -/
def State.takeSyncReq (s : State) (o : Origin) (keeper : Byte) : State :=
  if s.keeper && keeper.toNat == s.cl.constants.station && (s.peer o.toNat).isSome then
    (s.setTs { s.ts with answers := enterAnswer o.toNat s.ts.answers }).answerStep
  else s

/-! ### A joiner's insertion (R197, R198) -/

/-- The joiner takes a sync frame: SYNCING, named, and from the keeper it asked (R197). -/
def State.takesSync (s : State) (o : Origin) (joiner : Byte) : Bool :=
  s.hc.runState == .syncing && joiner.toNat == s.cl.constants.station && o.toNat == s.ts.keeper

/-- A SYNC_CAR (R197): counted, and placed by serial order unless its ticket is 0, held or recently departed. -/
def State.takeSyncCar (s : State) (t : Ticket) (front len : Half) (services : ServiceSet) (intensity : Byte) : State :=
  let s1 := s.setTs { s.ts with received := s.ts.received + 1 }
  if t = 0 || s1.holds t || s1.ts.recent.contains t then s1
  else
    let l := if 1 ≤ len.toNat ∧ len.toNat ≤ s1.cl.constants.lmax then some len.toNat else none
    s1.placeCar (syncPlace t (ticketsOf s1.ts.train)) front.toNat
      { freshCar t services (intensityOf intensity) with length := l, synced := true }

/-- A SYNC_END (R198). -/
def State.takeSyncEnd (s : State) (count : Byte) : State := s.endSync (s.ts.received != count.toNat)

/-! ### A BEACON taken (R187 to R192) -/

/-- A peer's record as its BEACON writes it (R187). -/
def Peer.fromBeacon (r : Peer) (roleState : Byte) (causes : BitVec 24) (trainCount : Byte) (p : Pulse) (claim : Byte)
    (newest : Ticket) : Peer :=
  { r with
    reported := some (beaconState roleState)
    causes := beaconCauses causes
    trainCount := some (min trainCount.toNat 24)
    lastP := some p
    claim := min claim.toNat 60
    newest := newest }

/-- A peer that shows READY, RUN or STANDBY (R191, R192). -/
def RunState.settled : RunState → Bool
  | .ready => true
  | .run => true
  | .standby => true
  | _ => false

/-- The comparison of digest and role (R188). -/
def State.checkBeacon (s : State) (n : Nat) (roleState : Byte) (digest : Half) : State :=
  match s.peer n with
  | some r =>
    if beaconState roleState ≠ .configFault ∧ (digest ≠ s.cl.constants.digest ∨ beaconRole roleState ≠ r.role) then
      s.raise .mismatch
    else s
  | none => s

/-- The offset and skew work at a BEACON with state x and count p from station n (R191, R192). -/
def State.checkSkew (s : State) (n : Nat) (x : RunState) (p : Pulse) : State :=
  if x.settled then
    match s.peer n with
    | some r =>
      match r.offset with
      | none =>
        if s.hc.runState == .syncing || s.hc.runState.settled then
          s.updatePeer n (fun r => { r with offset := some (s.pc.p - p) })
        else s
      | some o => if s.cl.constants.skewLimit < (skewOf s.pc.p p o).natAbs then s.raise .skew else s
    | none => s
  else s.updatePeer n (fun r => { r with offset := none })

/-- A BEACON from an expected station (R187): the record, the comparison, the offset and skew work. -/
def State.takeBeacon (s : State) (o : Origin) (roleState : Byte) (causes : BitVec 24) (trainCount : Byte) (p : Pulse)
    (claim : Byte) (newest : Ticket) (digest : Half) : State :=
  let s1 := s.updatePeer o.toNat (fun r => r.fromBeacon roleState causes trainCount p claim newest)
  (s1.checkBeacon o.toNat roleState digest).checkSkew o.toNat (beaconState roleState) p

/-- The empty-tunnel test (R199). -/
def State.emptyTunnel (s : State) : Bool :=
  s.ts.train.isEmpty &&
    (s.pt.peers.filter (fun r => r.role == .drive || r.role == .exit)).all (fun r => r.trainCount == some 0)

/-! ### Ages (R189, R190) -/

/-- A record one tick older, saturating (R189). -/
def Peer.ageOne (r : Peer) : Peer := { r with age := min (r.age + 1) 65535 }

/-- Some record becomes silent at this tick (R190). -/
def State.fallsSilent (s : State) : Bool :=
  s.pt.peers.any (fun r => !r.silent s.cl.constants && r.ageOne.silent s.cl.constants)

/-- PT at a tick: every record ages, and one that becomes silent raises SILENT from READY on (R189, R190). -/
def State.agePeers (s : State) : State :=
  let s1 := s.mapPeers Peer.ageOne
  if s.fallsSilent && s.hc.runState.settled then s1.raise .silent else s1

end Sys2Proof.Machine
end

