-- ==== Sys2Proof/Machine/Settle.lean ====
section
/-! DEFINITION. The end of an action: what the readers of a change take up in the action that made it. One command is one
action; its own effect comes first, then the changes it made are compared with the state before it, in the order of the
stages below. R2, R90 and R187 give the readers no order among themselves; where a rule does, the stages keep it (log entries
9 and 10). -/

namespace Sys2Proof.Machine

open Sys2Proof

/-- What an action was, for the rules that act on an event and not on a change of state. -/
structure Occasion where
  /-- A pulse was taken (R76). -/
  pulse : Bool := false
  /-- A FLOW or BEACON of a peer was taken (R62, R69, R76). -/
  claims : Bool := false
  /-- A beacon of a keeper was taken (R199). -/
  keeperBeacon : Bool := false
  /-- A beacon of the DRIVE was taken (R151). -/
  driveBeacon : Bool := false
  /-- A beacon of the ENTRY showing RUN was taken (R109). -/
  entryRuns : Bool := false
  /-- A car was placed in an empty train (R109), also where its own placement retires it again (R24, R44). -/
  firstCar : Bool := false
  /-- A RESUME was taken (R102, R109). -/
  resume : Bool := false
  /-- A clear edge of the entry eye was taken (R151). -/
  entryClear : Bool := false
  deriving DecidableEq, Repr

/-! ### Waking (R109) -/

/-- A ticket joined the lane's queue with its presence active, or its presence became active with a ticket queued (R109). -/
def State.laneBreak (s before : State) (l : Lane) : Bool :=
  s.presence l && !(s.su.lane l).queue.isEmpty &&
    (!before.presence l || decide ((before.su.lane l).queue.length < (s.su.lane l).queue.length))

/-- The action takes a break event (R109, R110). -/
def State.breaks (s : State) (o : Occasion) (before : State) : Bool :=
  o.resume || o.firstCar || (before.ts.train.isEmpty && !s.ts.train.isEmpty) ||
    (s.role != .entry && o.entryRuns) ||
    (s.role == .entry && (s.laneBreak before .a || s.laneBreak before .b))

/-- A station in STANDBY returns to RUN at a break event, and SS examines every channel (R66, R109), with the retirement checks
of the run-ons that ends (R24). -/
def State.wakeStage (s : State) (o : Occasion) (before : State) : State :=
  if s.hc.runState == .standby && s.breaks o before then
    let s1 := s.setRunState .run
    s1.retireServed (s1.examineOpen (ticketsOf s1.ts.train))
  else s

/-! ### The grade of the view (R90) -/

/-- The first H or P cause has entered the view: the stop window is loaded (R95), every channel goes SUSPENDED (R52) with the
retirement checks of R65, and a running purge ends (R79). -/
def State.enterHalt (s : State) : State :=
  let s1 := s.setHc { s.hc with stop := Pace.load s.cl.constants.stopWindow }
  let s2 := State.retireEnded s1 s1.suspendAll
  if s2.ps.purge == .none then s2 else s2.cancelPurge

/-- The last H or P cause has left the view: the stop window is abandoned (R96), every channel takes up its state (R53), then
the forced-purge test is made (R78). -/
def State.leaveHalt (s : State) : State :=
  ((s.setHc { s.hc with stop := Pace.idle }).takeUpAll).syncFlow.forcedTest

/-- The call is withdrawn when the view's grade has changed from none, or the station has left RUN (R155). -/
def State.withdrawStage (s before : State) : State :=
  if (before.grade.isNone && s.grade.isSome) || (before.hc.runState == .run && s.hc.runState != .run) then s.withdrawCall
  else s

/-- A change of grade delivered to its readers (R90). -/
def State.gradeStage (s before : State) : State :=
  let s1 :=
    if !before.halted && s.halted then s.enterHalt
    else if before.halted && !s.halted then s.leaveHalt
    else s
  s1.withdrawStage before

/-! ### Water (R67 to R73, R76) -/

/-- FB recomputes, makes the shed test where its values have changed or a claim was heard (R72), then the DEFERRED sprays try
again where a claim was heard (R69); PS makes its start test where a condition of it has changed (R76). After two sheds in one
action the own claim has fallen a second time, so the spray shed first may pass the retry that follows: R73 bars a shed spray
from it, yet only until some claim falls. DESIGN CHOICE (log entry 36). -/
def State.waterStage (s : State) (o : Occasion) (before : State) : State :=
  if s.role != .arch then s
  else
    let s1 := s.syncFlow
    let s2 := if o.claims || s1.fb != before.fb then s1.shedTest s1.shedBound else s1
    let s3 := if o.claims then s2.retrySprays.syncFlow else s2
    if o.claims || o.pulse || s3.purgeInputs != before.purgeInputs then s3.startTest else s3

/-! ### The train's flag (R199) -/

/-- A car of the train before the action has left it. -/
def State.carLeft (s before : State) : Bool := before.ts.train.any (fun c => !s.holds c.ticket)

/-- The empty-tunnel test, at a keeper's beacon and at a removal (R199). -/
def State.syncFlagStage (s : State) (o : Occasion) (before : State) : State :=
  if s.ts.syncFailed && (o.keeperBeacon || s.carLeft before) && s.emptyTunnel then
    s.setTs { s.ts with syncFailed := false }
  else s

/-! ### The gate (R151, R153, R161) -/

/-- AC at the ENTRY: the limit in force, the skip counters, and the call test where one of its conditions has changed. After a
call timeout R162 has the test made in the expiry's own action, and the same ticket or another may be called again; R156 says
that a block edge after the expiry finds the gate SHUT. The new call stands, and an edge that finds the gate CALLING admits its
car: DESIGN CHOICE (log entry 43). -/
def State.gateStage (s : State) (o : Occasion) (before : State) : State :=
  if s.role != .entry then s
  else
    let s1 := ((s.lowerLimit before).resetSkip before .a).resetSkip before .b
    if o.driveBeacon || o.entryClear || decide (s1.inTunnel < before.inTunnel) || s1.callInputs != before.callInputs then
      s1.callTest
    else s1

/-! ### Idleness (R107) -/

/-- The channel stands PARKED, CLOSED or OFF. -/
def ChannelState.atRest : ChannelState → Bool
  | .parked => true
  | .closed => true
  | .off => true
  | _ => false

/-- The station is idle (R107). -/
def State.idle (s : State) : Bool :=
  s.hc.runState == .run && s.ts.train.isEmpty && s.ss.all (fun ch => ch.state.atRest) && s.ps.purge == .none &&
    (if s.role == .entry then s.su.laneA.queue.isEmpty && s.su.laneB.queue.isEmpty else !s.roleRuns .entry)

/-- HC loads the standby counter when the station has become idle, and cancels it when it has ceased to be (R107). -/
def State.idleStage (s before : State) : State :=
  if s.idle && !before.idle then s.setHc { s.hc with standby := Pace.load s.cl.constants.standbyTime }
  else if !s.idle && before.idle then s.setHc { s.hc with standby := Pace.idle }
  else s

/-! ### The whole -/

/-- The end of an action that began in `before` and whose own effect left `s`. Outside the run states from JOINING on no
reader acts. -/
def State.settle (o : Occasion) (before s : State) : State :=
  if s.active then
    ((((((s.wakeStage o before).gradeStage before).waterStage o before).syncFlagStage o before).gateStage o before).idleStage
      before)
  else s

end Sys2Proof.Machine
end

