-- ==== Sys2Proof/Machine/Start.lean ====
section
/-! DEFINITION. Reset, RESTART and the two ends of LOADING (R200, R204, R205, R206). -/

namespace Sys2Proof.Machine

open Sys2Proof

/-! ### Inputs -/

/-- An input after reset (R207): its level inactive, and a pin that stands active taken as a change. -/
def Debounced.afterReset (pin : InputPin) (x : Debounced) : Debounced :=
  ⟨x.pin, false, if x.pin then Pace.load (debounceTime pin) else Pace.idle⟩

/-- Every input changed by a function of its pin. -/
def Inputs.map (f : InputPin → Debounced → Debounced) (x : Inputs) : Inputs where
  eye := f .eye x.eye
  estop := f .estop x.estop
  pause := f .pause x.pause
  resumeKey := f .resumeKey x.resumeKey
  chemLow := f .chemLow x.chemLow
  freeze := f .freeze x.freeze
  presA := f .presA x.presA
  presB := f .presB x.presB
  overTemp := x.overTemp

/-- The inputs at the end of power-on reset; the pins stand where the field holds them (R200, R207). -/
def Inputs.afterPowerOn (x : Inputs) : Inputs := x.map Debounced.afterReset

/-- The inputs while reset holds the part: levels inactive, counters IDLE. -/
def Inputs.whileHeld (x : Inputs) : Inputs := x.map (fun _ d => ⟨d.pin, false, Pace.idle⟩)

/-- The inputs after a RESTART: debouncers kept, but for the eye's (R206). -/
def Inputs.afterRestart (x : Inputs) : Inputs := { x with eye := Debounced.afterReset .eye x.eye }

/-! ### Power (R200) -/

/-- The end of power-on reset: every block at its reset value, in LOADING with STARTUP held. -/
def State.powerOn (s : State) : State := (State.reset.setInputs s.inputs.afterPowerOn).setPending s.pending

/-- The supply has fallen: reset holds the part, no cause held and every output off (R200, R208). The blocks are put at their
reset values at once, since nothing of them can be seen before power-on reset ends (log entry 13). -/
def State.supplyLost (s : State) : State :=
  let r := (State.reset.setInputs s.inputs.whileHeld).setPending s.pending
  { r.setHc { r.hc with own := 0 } with inReset := true }

/-! ### RESTART (R105, R147, R206) -/

/-- SU after a RESTART: at the ENTRY, and at a station in CONFIG_FAULT that may have been one, what R147 keeps. Lane A's PRICED
sale is voided, and its credit restored, before lane B's, an order R147 does not give: DESIGN CHOICE (log entry 40). -/
def State.salesAfterRestart (s : State) : SalesUnit :=
  if s.role = .entry ∨ s.hc.runState = .configFault then
    ({ s.su with catalogue := Catalogue.empty }.restartLane .a).restartLane .b
  else SalesUnit.reset

/-- The own set after a RESTART: STARTUP, and RUNAWAY where it is held (R85). -/
def State.ownAfterRestart (s : State) : CauseSet :=
  if s.owns .runaway then addCause startupOnly .runaway else startupOnly

/-- The station restarts (R206). -/
def State.restart (s : State) : State :=
  let r := (State.reset.setInputs s.inputs.afterRestart).setPending s.pending
  (r.setHc { r.hc with own := s.ownAfterRestart }).setSu s.salesAfterRestart

/-! ### The end of LOADING with a sound image (R87, R204) -/

/-- The causes the field levels show at the end of LOADING (R87). -/
def State.fieldCauses (s : State) : CauseSet :=
  let x := if s.inputs.estop.level then addCause s.hc.own .estop else s.hc.own
  let y := if s.inputs.pause.level then addCause x .opPause else x
  if s.inputs.chemLow.level then addCause y .chemLow else y

/-- One HALT for each member of the own set, in rank order (R87). -/
def State.announceAll (s : State) : State :=
  (allCauses.filter s.owns).foldl (fun s c => s.queue (s.haltFrame c)) s

/-- A peer record at its creation (R183). -/
def newPeer (station : Nat) (role : Role) : Peer :=
  ⟨station, role, false, 65535, none, 0, 0, 0, none, none, none⟩

/-- The blocks take their constants (R204), before any frame is queued. -/
def State.takeImage (s : State) (m : Image) : State :=
  let s1 := s.setCl { Loader.reset with constants := m.constants }
  let s2 := s1.setPt {
    peers := m.peers.map (fun x => newPeer x.1 x.2)
    others := m.others
    beacon := Pace.load m.constants.beaconPeriod
    join := Pace.load Config.joinTime }
  let s3 := s2.setSs (m.channels.zipIdx.map (fun y => createChannel y.1 (s.inputs.overTemp.toList.getD y.2 false)))
  let s4 := s3.setHc { s3.hc with
    own := s3.fieldCauses, runState := .joining, stop := Pace.load m.constants.stopWindow }
  let s5 := s4.setSu { s4.su with catalogue := m.catalogue }
  s5.setAc { s5.ac with limit := max m.constants.admissionLimit s5.inTunnel }

/-- The entry to JOINING (R204): PS reads FREEZE, the HALTs and pending VOIDs are queued, then the first BEACON. -/
def State.enterJoining (s : State) (m : Image) : State :=
  let s1 := s.takeImage m
  let s2 := if s1.inputs.freeze.level then s1.freezeOn else s1
  let s3 := s2.announceAll
  let s4 := if m.constants.role = .entry then (s3.answerPending .a).answerPending .b else s3
  s4.queue s4.liveBeacon

/-! ### The end of LOADING with a faulty image (R205) -/

/-- The entry to CONFIG_FAULT: MISMATCH raised, and announced under the fault origin where there is one. -/
def State.enterConfigFault (s : State) (origin : Option Origin) (role : Role) : State :=
  let s1 := s.setCl { Loader.reset with
    faultOrigin := origin
    faultRole := role
    faultBeacon := if origin.isSome then Pace.load Config.faultBeaconPeriod else Pace.idle }
  let s2 := s1.setHc { s1.hc with own := addCause s1.hc.own .mismatch, runState := .configFault }
  if origin.isSome then
    s2.queue (.halt (byte Cause.mismatch.rank) Cause.mismatch.grade.code (byte (currentRank s2.hc.own)))
  else s2

/-- The image read completes and is judged (R201, R202, R204, R205). -/
def State.endLoading (s : State) (mem : List Byte) : State :=
  match judgeImage mem with
  | some m => s.enterJoining m
  | none => s.enterConfigFault (faultOriginOf mem) (faultRoleOf mem)

end Sys2Proof.Machine
end

