-- ==== Sys2Proof/Machine/Act.lean ====
section
/-! DEFINITION. The common frame of the commands: one command is one action, and what it leaves alone where it finds nothing
to act on. Every command answers a next state. -/

namespace Sys2Proof.Machine

open Sys2Proof

/-- What a meaning answers. -/
abbrev Result := Host.Outcome State Fault Refusal

/-- The owners' part of an action that began in `before`: done from JOINING on, and settled; s stands in LOADING and
CONFIG_FAULT, where no owner acts (R170, R205, R207). -/
def State.act (o : Occasion) (before : State) (f : State → State) (s : State) : State :=
  if s.active then State.settle o before (f s) else s

/-- A command whose whole effect is its owners'. -/
def State.perform (o : Occasion) (f : State → State) (s : State) : Result := .next (State.act o s f s)

/-- The expiry of a pace counter taken by its owner (R3, R8): `c` is the counter, and f what the owner does. A counter that has
not run out since it was last loaded has no expiry to take (log entry 1). -/
def State.expire (c : Pace) (o : Occasion) (f : State → State) (s : State) : Result :=
  if c.ranOut then s.perform o f else .next s

/-- A debounced edge (R207): the debounced level takes the pin's, the expiry is taken, then comes the owner's part. There
is no edge before the debounce counter has run out, nor to a level at which the pin does not stand or the debounced level
already does (log entry 14). -/
def State.edge (pin : InputPin) (level : Bool) (o : Occasion) (f : State → State) (s : State) : Result :=
  if s.inReset || !(s.inputs.get pin).due level then .next s
  else .next (State.act o s f (s.setInput pin ⟨level, level, Pace.idle⟩))

/-- The expiry of a counter of channel i: f changes the state, given the channel. -/
def State.atChannel (s : State) (i : Nat) (counter : Channel → Pace) (f : Channel → State → State) : Result :=
  match s.ss[i]? with
  | some ch => s.expire (counter ch) {} (f ch)
  | none => .next s

/-! ### Frames (R168, R170, R171, R189) -/

/-- The origin is an expected station's, other than this one. -/
def State.expects (s : State) (o : Origin) : Bool := (s.peer o.toNat).isSome

/-- The origin passes the receive filter (R168), this station's own apart. -/
def State.configured (s : State) (o : Origin) : Bool := s.expects o || s.pt.others.any (fun x => x.origin == o)

/-- A frame taken from the line under an origin: this station's own origin raises MISMATCH (R171); an origin that is not
configured is discarded (R168); any other frame is heard (R189) and delivered (R170). -/
def State.takeFrame (origin : Origin) (o : Occasion) (f : State → State) (s : State) : Result :=
  if origin == s.ownOrigin then s.perform {} (fun s => s.raise .mismatch)
  else if s.configured origin then s.perform o (fun s => f (s.hear origin))
  else .next s

/-- A frame delivered to its owner only when a test holds. -/
def State.takeWhen (origin : Origin) (welcome : Bool) (o : Occasion) (f : State → State) (s : State) : Result :=
  if welcome then s.takeFrame origin o f else s.takeFrame origin {} id

/-- A COMMAND is accepted: from a console, with target 0 or this station (R100). -/
def State.accepts (s : State) (origin : Origin) (target : Byte) : Bool :=
  s.otherOrigin origin .console && s.isTarget target

/-- A COMMAND taken (R100). -/
def State.takeCommand (origin : Origin) (target : Byte) (o : Occasion) (f : State → State) (s : State) : Result :=
  s.takeWhen origin (s.accepts origin target) o f

/-- The kiosk kind of a lane (R129, R184). -/
def kioskOf : Lane → OtherKind
  | .a => .kioskA
  | .b => .kioskB

/-- A sales frame taken (R129): at the ENTRY, for a lane its field names, from that lane's kiosk. -/
def State.takeSales (origin : Origin) (lane : Byte) (f : Lane → State → State) (s : State) : Result :=
  match laneOf lane with
  | some l => s.takeWhen origin (s.role == .entry && s.otherOrigin origin (kioskOf l)) {} (f l)
  | none => s.takeFrame origin {} id

end Sys2Proof.Machine
end

