-- ==== Sys2Proof/Machine/Expiry.lean ====
section
/-! DEFINITION. The commands that take an expiry, the end of a period or what a tick brings: a keeper's answer (chapter 10), the
speed window (chapter 1), channels (chapter 3), purge (chapter 4), stop window and standby (chapter 5), sales and gate (chapters
7 and 8), beacons, join and sync (chapters 10 and 11). -/

namespace Sys2Proof.Machine

open Sys2Proof

/-! ### SYNC_ANSWER_STEP (R196) -/

/-- The step of a tick taken: none is due until a tick comes with an answer in the list. -/
def State.answerTaken (s : State) : State := s.setTs { s.ts with answerDue := false }

/-- SYNC_ANSWER_STEP (R196): the one step a keeper takes at a tick. The table makes it a command apart from TICK; it comes once
for each tick that found an answer in the list, and at no other time (log entry 34). -/
def execSyncAnswerStep (s : State) : Result :=
  if s.ts.answerDue then .next (State.act {} s (fun s => if s.keeper then s.answerStep else s) s.answerTaken) else .next s

/-! ### SPEED_WINDOW_END (R4) -/

/-- PC ends a speed window (R4). -/
def PulseCounter.endWindow (c : PulseCounter) : PulseCounter :=
  { c with v := c.windowCount, windowCount := 0, windowTicks := 0 }

/-- Every brush recomputes its level (R56). -/
def State.relevelAll (s : State) : State := s.eachChannel State.relevel

/-- The speed window is over (R4): its 250th tick has been taken. -/
def PulseCounter.windowOver (c : PulseCounter) : Bool := c.windowTicks == Config.speedWindow

/-- SPEED_WINDOW_END (R4, R56): a window ends at its 250th tick and at no other (log entry 1). -/
def execSpeedWindowEnd (s : State) : Result :=
  if s.inReset || !s.pc.windowOver then .next s else .next (State.act {} s State.relevelAll (s.setPc s.pc.endWindow))

/-! ### Channels -/

/-- Override follows the recorded level (R58), with the HOT timer and the level it bears on (R59, R56), and HOT released when
override ends on the last brush. -/
def State.followOverride (s : State) (i : Nat) (ch : Channel) : State :=
  let ch1 := { ch with sustain := Pace.idle }
  if ch.override = ch.recorded then s.setChannel i ch1
  else if ch.recorded then
    (s.setChannel i { ch1 with
      override := true
      hot := if ch.state == .engaged then Pace.load ch.cfg.hotTime else ch.hot }).relevel i
  else
    let s1 := (s.setChannel i { ch1 with override := false, hot := Pace.idle }).relevel i
    if s1.anyOverride then s1 else s1.releaseCause .hot

/-- THERMAL_SUSTAIN_EXPIRY (R58, R59). -/
def execThermalSustainExpiry (i : ChannelNo) (s : State) : Result :=
  s.atChannel i.val (fun ch => ch.sustain) (fun ch s => s.followOverride i.val ch)

/-- The motor of a brush turns: READY or ENGAGED (R60). -/
def ChannelState.turns : ChannelState → Bool
  | .ready => true
  | .engaged => true
  | _ => false

/-- A sample is over (R60). -/
def Channel.isOver (ch : Channel) (reading : Byte) : Bool := ch.state.turns && decide (ch.threshold < reading.toNat)

/-- The over run after a sample (R60). -/
def Channel.runAfter (ch : Channel) (reading : Byte) : Nat := if ch.isOver reading then min (ch.overRun + 10) 2550 else 0

/-- A sample taken (R60, R61): the sampling counter reloaded, the over run counted, and STALL raised where the hold-off is not
running and the run is complete. -/
def State.sampleCurrent (s : State) (i : Nat) (reading : Byte) (ch : Channel) : State :=
  let run := ch.runAfter reading
  let s1 := s.setChannel i { ch with sample := Pace.load Config.samplePeriod, overRun := run }
  if ch.isOver reading && !ch.holdOff.running && decide (ch.cfg.stallTime ≤ run) then s1.raise .stall else s1

/-- CURRENT_SAMPLE (R60, R61). -/
def execCurrentSample (i : ChannelNo) (reading : Byte) (s : State) : Result :=
  s.atChannel i.val (fun ch => ch.sample) (fun ch s => s.sampleCurrent i.val reading ch)

/-- The hold-off has ended: STALL where the over run already stands at or above the stall time (R61). -/
def State.endHoldOff (s : State) (i : Nat) (ch : Channel) : State :=
  let s1 := s.setChannel i { ch with holdOff := Pace.idle }
  if ch.cfg.stallTime ≤ ch.overRun then s1.raise .stall else s1

/-- HOLD_OFF_EXPIRY (R61). -/
def execHoldOffExpiry (i : ChannelNo) (s : State) : Result :=
  s.atChannel i.val (fun ch => ch.holdOff) (fun ch s => s.endHoldOff i.val ch)

/-- HOT_TIMER_EXPIRY (R59). -/
def execHotTimerExpiry (i : ChannelNo) (s : State) : Result :=
  s.atChannel i.val (fun ch => ch.hot) (fun ch s => (s.setChannel i.val { ch with hot := Pace.idle }).raise .hot)

/-- The idle timer of a brush has run out (R55): a READY brush parks, any other is left as it is. -/
def Channel.idleOut (ch : Channel) : Channel :=
  if ch.state == .ready then ch.enterParked else { ch with idle := Pace.idle }

/-- IDLE_TIMER_EXPIRY (R55). -/
def execIdleTimerExpiry (i : ChannelNo) (s : State) : Result :=
  s.atChannel i.val (fun ch => ch.idle) (fun ch s => s.setChannel i.val ch.idleOut)

/-- The drive period of a brush is over (R57): its eighth tick has been taken. -/
def Channel.periodOver (ch : Channel) : Bool := ch.cfg.kind == .brush && ch.drivePhase == Config.drivePeriod

/-- A new drive period of a brush (R57). -/
def Channel.nextPeriod (ch : Channel) : Channel := { ch with onTime := ch.drivePeriodOn, drivePhase := 0 }

/-- BRUSH_DRIVE_PERIOD (R57): a period begins when the one before it is over, and at no other time (log entry 21). -/
def execBrushDrivePeriod (i : ChannelNo) (s : State) : Result :=
  match s.ss[i.val]? with
  | some ch => if ch.periodOver then s.perform {} (fun s => s.setChannel i.val ch.nextPeriod) else .next s
  | none => .next s

/-- A run-on ends (R44): the window of its car closes and is judged, the channel's state and the car's REPORT follow, and then
the car's retirement check (R24). -/
def State.endRunOn (s : State) (i : Nat) (ch : Channel) : State :=
  let s1 := s.setChannel i { ch with runOn := Pace.idle, runOnCar := none }
  match ch.runOnCar with
  | some t =>
    (((s1.setTrain (judgeTicket ch i s.cl.constants.lmax t s.ts.train)).refresh false i).flushReports).retireCar t
  | none => s1.refresh false i

/-- RUN_ON_EXPIRY (R44, R24). -/
def execRunOnExpiry (i : ChannelNo) (s : State) : Result :=
  s.atChannel i.val (fun ch => ch.runOn) (fun ch s => s.endRunOn i.val ch)

/-! ### Purge -/

/-- The debt rises and the interval begins again, with the forced-purge test (R75, R78). -/
def State.accrueDebt (s : State) : State :=
  (s.setPs { s.ps with
    debt := min (s.ps.debt + 1) 4, interval := Pace.load s.cl.constants.purgeInterval }).forcedTest

/-- PURGE_INTERVAL_EXPIRY (R75). -/
def execPurgeIntervalExpiry (s : State) : Result := s.expire s.ps.interval {} State.accrueDebt

/-- PURGE_DURATION_EXPIRY (R77). -/
def execPurgeDurationExpiry (s : State) : Result := s.expire s.ps.duration {} State.completePurge

/-! ### Stop window and standby -/

/-- The stop window has run out (R97). -/
def State.checkStopped (s : State) : State :=
  let s1 := s.setHc { s.hc with stop := Pace.idle }
  if s1.recentPulse then s1.raise .runaway else s1

/-- STOP_WINDOW_EXPIRY (R97, R98). -/
def execStopWindowExpiry (s : State) : Result := s.expire s.hc.stop {} State.checkStopped

/-- The standby time has passed (R108). -/
def State.enterStandby (s : State) : State :=
  let s1 := s.setHc { s.hc with standby := Pace.idle }
  if s1.hc.runState == .run then s1.setRunState .standby else s1

/-- STANDBY_EXPIRY (R108). -/
def execStandbyExpiry (s : State) : Result := s.expire s.hc.standby {} State.enterStandby

/-! ### Sales and gate -/

/-- A sale timeout has run out (R137). -/
def State.saleTimesOut (s : State) (l : Lane) : State :=
  match s.openSale l with
  | some x => s.voidOpen l x .timeout x.tendered
  | none => s.setLane l { s.su.lane l with timeout := Pace.idle }

/-- SALE_TIMEOUT_EXPIRY (R137). -/
def execSaleTimeoutExpiry (l : Lane) (s : State) : Result :=
  s.expire (s.su.lane l).timeout {} (fun s => s.saleTimesOut l)

/-- CALL_TIMEOUT_EXPIRY (R162, R141); the call test comes with the end of the action. -/
def execCallTimeoutExpiry (s : State) : Result := s.expire s.ac.callTimeout {} State.callTimesOut

/-- The admission gap has passed (R160). -/
def State.endSpacing (s : State) : State :=
  s.setAc { s.ac with gap := Pace.idle, gate := if s.ac.gate == .spacing then .shut else s.ac.gate }

/-- ADMISSION_GAP_EXPIRY (R160); the call test comes with the end of the action. -/
def execAdmissionGapExpiry (s : State) : Result := s.expire s.ac.gap {} State.endSpacing

/-! ### Beacons, join and sync -/

/-- A beacon period (R185). -/
def State.beaconDue (s : State) : State :=
  (s.setPt { s.pt with beacon := Pace.load s.cl.constants.beaconPeriod }).queue s.liveBeacon

/-- BEACON_PERIOD_EXPIRY (R185). -/
def execBeaconPeriodExpiry (s : State) : Result := s.expire s.pt.beacon {} State.beaconDue

/-- FAULT_BEACON_PERIOD (R205): in CONFIG_FAULT, at a station with a fault origin, when the period has run out. -/
def execFaultBeaconPeriod (s : State) : Result :=
  if !s.inReset && s.hc.runState == .configFault && s.cl.faultBeacon.ranOut then
    .next ((s.setCl { s.cl with faultBeacon := Pace.load Config.faultBeaconPeriod }).queue s.faultBeacon)
  else .next s

/-- The join counter has run out (R193). -/
def State.joinTimesOut (s : State) : State :=
  let s1 := s.setPt { s.pt with join := Pace.idle }
  if s1.hc.runState == .joining then (s1.raise .silent).enterSyncing else s1

/-- JOIN_TIMEOUT (R193). -/
def execJoinTimeout (s : State) : Result := s.expire s.pt.join {} State.joinTimesOut

/-- The sync counter has run out (R198). -/
def State.syncTimesOut (s : State) : State :=
  if s.hc.runState == .syncing then s.endSync true else s.setTs { s.ts with sync := Pace.idle }

/-- SYNC_TIMEOUT (R198). -/
def execSyncTimeout (s : State) : Result := s.expire s.ts.sync {} State.syncTimesOut

end Sys2Proof.Machine
end

