-- ==== Sys2Proof/Machine/Pins.lean ====
section
/-! DEFINITION. RESUME's action, and the debounced edges of the field inputs (R207). -/

namespace Sys2Proof.Machine

open Sys2Proof

/-! ### RESUME (R101, R102) -/

/-- A RESUME releases this cause, its condition read as it stands (the table of R101). -/
def State.resumable (s : State) (c : Cause) : Bool :=
  match c with
  | .estop => !s.inputs.estop.level
  | .closing => true
  | .unexpected => true
  | .missing => true
  | .stall => true
  | .overflow => true
  | .skew => true
  | .long => true
  | .silent => !s.anySilent
  | .lineLost => s.lp.failures == 0
  | .startup => s.hc.runState == .ready && !s.ts.syncFailed
  | .runaway => false
  | .mismatch => false
  | .opPause => false
  | .hot => false
  | .chemLow => false
  | .opHold => false

/-- The causes a RESUME releases, in rank order (R101). -/
def State.resumed (s : State) : List Cause := allCauses.filter (fun c => s.owns c && s.resumable c)

/-- A RESUME (R101, R102): the releases, then the re-basing, the lost departures and READY to RUN; the return from STANDBY and
the change of grade come with the end of the action. -/
def State.resume (s : State) : State :=
  let released := s.resumed
  let s1 := released.foldl State.releaseCause s
  let s2 := if released.contains .skew then s1.rebase else s1
  let s3 := if s2.role == Role.exit && (released.contains .missing || released.contains .closing) then s2.lostDepartures else s2
  if released.contains .startup then s3.setRunState .run else s3

/-! ### The eye (R31, R36, R150) -/

/-- Edges of the presence eye are matched: a reconciler, the held flag clear and the chain moving (R30). -/
def State.eyeWorks (s : State) : Bool := s.reconciles && !s.ts.held && !s.stationary

/-- EYE_BLOCK_EDGE (R31; at the ENTRY R150, R156, R158). -/
def execEyeBlockEdge (s : State) : Result :=
  s.edge .eye true {} (fun s =>
    if s.role == .entry then s.entryBlock else if s.eyeWorks then s.blockAtEye true else s)

/-- EYE_CLEAR_EDGE (R36, R40; at the ENTRY R150, R159). -/
def execEyeClearEdge (s : State) : Result :=
  s.edge .eye false { entryClear := true } (fun s =>
    if s.role == .entry then s.entryClear else if s.eyeWorks then s.clearAtEye else s)

/-! ### Inputs of HC -/

/-- ESTOP_FALLING_EDGE (R92): ESTOP_N low is the active level. -/
def execEstopFallingEdge (s : State) : Result := s.edge .estop true {} (fun s => s.raise .estop)

/-- ESTOP_RISING_EDGE (R92): the level that RESUME reads, and nothing else. -/
def execEstopRisingEdge (s : State) : Result := s.edge .estop false {} id

/-- PAUSE_INPUT_ASSERTED (R93). -/
def execPauseInputAsserted (s : State) : Result := s.edge .pause true {} (fun s => s.raise .opPause)

/-- PAUSE_INPUT_DEASSERTED (R93): whether the input or a console put OPPAUSE there. -/
def execPauseInputDeasserted (s : State) : Result := s.edge .pause false {} (fun s => s.releaseCause .opPause)

/-- RESUME_KEY_PRESS (R103): each press is a RESUME for this station alone. -/
def execResumeKeyPress (s : State) : Result := s.edge .resumeKey true { resume := true } State.resume

/-- CHEM_LOW_ASSERTED (R94). -/
def execChemLowAsserted (s : State) : Result := s.edge .chemLow true {} (fun s => s.raise .chemLow)

/-- CHEM_LOW_DEASSERTED (R94). -/
def execChemLowDeasserted (s : State) : Result := s.edge .chemLow false {} (fun s => s.releaseCause .chemLow)

/-! ### FREEZE (R75, R80) -/

/-- FREEZE_ASSERTED (R75). -/
def execFreezeAsserted (s : State) : Result := s.edge .freeze true {} State.freezeOn

/-- FREEZE_DEASSERTED (R80). -/
def execFreezeDeasserted (s : State) : Result := s.edge .freeze false {} State.freezeOff

/-! ### Lane presence (R152, R153) -/

/-- A presence input that has become inactive takes its lane's skip counter to 0 (R153). -/
def State.presenceGone (s : State) (l : Lane) (active : Bool) : State :=
  if !active && s.role == .entry then s.setAc (s.ac.setSkip l 0) else s

/-- LANE_PRESENCE_CHANGE (R109, R151, R153): the call test and the break event come with the end of the action. -/
def execLanePresenceChange (l : Lane) (active : Bool) (s : State) : Result :=
  s.edge (presencePin l) active {} (fun s => s.presenceGone l active)

end Sys2Proof.Machine
end

