-- ==== Sys2Proof/Machine/Due.lean ====
section
/-! DEFINITION. What is due comes first: before any other command is taken, every expiry, edge and period end that the counting
events so far have brought about (R3, R8, R9), and a keeper's step at the last tick (R196). -/

namespace Sys2Proof.Machine

open Sys2Proof

/-- The expiries and periods of one channel. The sampling period is not among them: its sample is a reading that only the
outside has (log entry 1). -/
def channelEvents (i : ChannelNo) : List (State → Result) :=
  [execThermalSustainExpiry i, execHoldOffExpiry i, execHotTimerExpiry i, execIdleTimerExpiry i, execBrushDrivePeriod i,
    execRunOnExpiry i]

/-- The edges of the debounced inputs. -/
def inputEvents : List (State → Result) :=
  [execEyeBlockEdge, execEyeClearEdge, execEstopFallingEdge, execEstopRisingEdge, execPauseInputAsserted,
    execPauseInputDeasserted, execResumeKeyPress, execChemLowAsserted, execChemLowDeasserted, execFreezeAsserted,
    execFreezeDeasserted, execLanePresenceChange .a true, execLanePresenceChange .a false, execLanePresenceChange .b true,
    execLanePresenceChange .b false]

/-- The expiries and periods of the part's other blocks. -/
def blockEvents : List (State → Result) :=
  [execPurgeIntervalExpiry, execPurgeDurationExpiry, execStopWindowExpiry, execStandbyExpiry, execSaleTimeoutExpiry .a,
    execSaleTimeoutExpiry .b, execCallTimeoutExpiry, execAdmissionGapExpiry, execBeaconPeriodExpiry, execFaultBeaconPeriod,
    execJoinTimeout, execSyncTimeout]

/-- Every event that a counting event can bring about, in the order of the table and channel by channel. R3 tells the events of
one tick not apart, and a sender may give them in any order of its own; this one is the model's: DESIGN CHOICE (log entry 1). -/
def timedEvents : List (State → Result) :=
  execSyncAnswerStep :: execSpeedWindowEnd :: inputEvents ++ ([0, 1, 2, 3] : List ChannelNo).flatMap channelEvents ++ blockEvents

/-- The state an event leaves; one that is not due changes nothing. -/
def State.deliver (s : State) (event : State → Result) : State :=
  match event s with
  | .next t => t
  | .fault _ => s
  | .refused _ => s

/-- Every event that is due taken by its owner, each in an action of its own (R8). Irreducible, so that no proof about a command
unfolds the events before it: `deliverDue_rel` says what they can do. -/
@[irreducible] def State.deliverDue (s : State) : State := timedEvents.foldl State.deliver s

/-- A command that no counting event brings about: the expiries that the counting events before it have delivered are taken
first, so that it passes none of them by (the first and third rows of R9). -/
def State.afterDue (s : State) (f : State → Result) : Result := f s.deliverDue

end Sys2Proof.Machine
end

