-- ==== Sys2Proof/Machine/Attempts.lean ====
section
/-! DEFINITION. The commands of the line port's own attempts (9.5). -/

namespace Sys2Proof.Machine

open Sys2Proof

/-- The origin this station sends under (R165): its own, and in CONFIG_FAULT its fault origin, where it has one (R205). -/
def State.lineOrigin (s : State) : Option Origin :=
  if s.hc.runState = .configFault then s.cl.faultOrigin else some s.ownOrigin

/-- LP sends: from JOINING on, and in CONFIG_FAULT under a fault origin (R182, R205). -/
def State.sends (s : State) : Bool := !s.inReset && s.hc.runState != .loading && s.lineOrigin.isSome

/-- The bits the station drives for the frame in hand (R164, R165, R205). -/
def State.bitsInHand (s : State) : Option (List Bool) :=
  match s.lineOrigin, s.lp.inHand with
  | some o, some q => some (sentBits o q.frame)
  | _, _ => none

/-- The command that stands for the end of an attempt. -/
def AttemptEnd.command : AttemptEnd → Instr
  | .lost => .attemptLost
  | .failed => .attemptFailed
  | .succeeded => .attemptSucceeded

/-- The command that ends the attempt in progress when these bits have been read back (R166, R177); none while it goes on, or
where there is no attempt. -/
def State.commandOfAttempt (s : State) (read : List Bool) : Option Instr :=
  match s.lineOrigin, s.lp.inHand with
  | some o, some q => (attemptEnd o q.frame read).map AttemptEnd.command
  | _, _ => none

/-- A frame written afresh at the start of its attempt: a BEACON, from the state as it stands (R177, R186). -/
def State.freshen (s : State) (q : Queued) : Queued :=
  match q.frame with
  | .beacon .. => { q with frame := s.beaconFrame }
  | _ => q

/-- SEND_ATTEMPT_START (R177, R182): the head becomes the frame in hand. With an empty queue, or an attempt in progress, no
attempt begins. -/
def execSendAttemptStart (s : State) : Result :=
  s.afterDue (fun s =>
    match s.lp.inHand, s.lp.waiting with
    | none, q :: qs => if s.sends then .next (s.setLp { s.lp with inHand := some (s.freshen q), waiting := qs }) else .next s
    | _, _ => .next s)

/-- ATTEMPT_LOST (R178). -/
def execAttemptLost (s : State) : Result :=
  s.afterDue (fun s => .next (s.setLp s.lp.giveBack))

/-- A failure counted, and LINE_LOST raised where it is the eighth (R179), outside CONFIG_FAULT (R205). -/
def State.countFailure (s : State) (lp : LinePort) : State :=
  let s1 := s.setLp lp.fail
  if s1.active && s1.lp.failures == Config.failureLimit && lp.failures != Config.failureLimit then s1.raise .lineLost else s1

/-- ATTEMPT_FAILED (R179): the frame goes back, the failure is counted. -/
def execAttemptFailed (s : State) : Result :=
  s.afterDue (fun s => if s.lp.inHand.isSome then .next (State.settle {} s (s.countFailure s.lp.giveBack)) else .next s)

/-- ATTEMPT_SUCCEEDED (R180): the frame has left, the failure count is 0. -/
def execAttemptSucceeded (s : State) : Result :=
  s.afterDue (fun s => if s.lp.inHand.isSome then .next (s.setLp { s.lp with inHand := none, failures := 0 }) else .next s)

/-- DOMINANT_LINE_STRETCH (R181): a failure, outside an attempt, while the queue holds a frame. -/
def execDominantLineStretch (s : State) : Result :=
  s.afterDue (fun s =>
    if s.sends && s.lp.inHand.isNone && !s.lp.waiting.isEmpty then .next (State.settle {} s (s.countFailure s.lp))
    else .next s)

end Sys2Proof.Machine
end

