-- ==== Sys2Proof/Machine/Console.lean ====
section
/-! DEFINITION. The console COMMANDs (R100): RESUME, CLEAR_TRAIN, RESTART, PAUSE, UNPAUSE, HOLD, UNHOLD and PURGE. -/

namespace Sys2Proof.Machine

open Sys2Proof

/-- RESUME (R101, R102, R109). -/
def execResume (origin : Origin) (target : Byte) (s : State) : Result :=
  s.afterDue (fun s => s.takeCommand origin target { resume := true } State.resume)

/-! ### CLEAR_TRAIN -/

/-- The conditions of CLEAR_TRAIN (R28): an H cause in the view, and the chain stationary. -/
def State.mayClear (s : State) : Bool := s.grade == some .halt && s.stationary

/-- The presence eye after an accepted CLEAR_TRAIN (R28): clear, its debounce counter loaded. -/
def State.clearEye (s : State) : State :=
  s.setInput .eye { s.inputs.eye with level := false, counter := Pace.load (debounceTime .eye) }

/-- FB's part of an accepted CLEAR_TRAIN at an ARCH station (R28, R68): a FLOW whether or not the claim changed. R68 also says
that none is queued while the claim stays 0 from its reset value; the CLEAR_TRAIN's FLOW is queued even then: DESIGN CHOICE
(log entry 8). -/
def State.clearFlow (s : State) : State :=
  if s.role == .arch then s.syncFlow.queue s.syncFlow.flowFrame else s

/-- The ENTRY's part of an accepted CLEAR_TRAIN (R146, R163). -/
def State.clearEntry (s : State) : State :=
  if s.role == .entry then (s.setSu { s.su with credits := clearCredits s.su.credits }).clearGate else s

/-- An accepted CLEAR_TRAIN (R28, R199). -/
def State.clearTrain (s : State) : State :=
  if s.mayClear then
    let s1 := s.emptyTrain.clearEye.clearFlow.clearEntry.rebase
    s1.setTs { s1.ts with syncFailed := false }
  else s

/-- CLEAR_TRAIN (R28, R146, R163, R191, R199). -/
def execClearTrain (origin : Origin) (target : Byte) (s : State) : Result :=
  s.afterDue (fun s => s.takeCommand origin target {} State.clearTrain)

/-! ### RESTART -/

/-- A RESTART is delivered in CONFIG_FAULT (R205): from an origin 17 to 30, with target 0 or the fault origin. -/
def State.faultRestart (s : State) (origin : Origin) (target : Byte) : Bool :=
  !s.inReset && s.hc.runState == .configFault && otherRange origin.toNat &&
    (target == 0 || s.cl.faultOrigin.any (fun o => target.toNat == o.toNat))

/-- RESTART (R105, R205, R206): acted on when the view holds an H cause. -/
def execRestart (origin : Origin) (target : Byte) (s : State) : Result :=
  s.afterDue (fun s =>
    if s.faultRestart origin target then .next s.restart
    else s.takeCommand origin target {} (fun s => if s.grade == some .halt then s.restart else s))

/-! ### OPPAUSE and OPHOLD -/

/-- PAUSE (R93). -/
def execPause (origin : Origin) (target : Byte) (s : State) : Result :=
  s.afterDue (fun s => s.takeCommand origin target {} (fun s => s.raise .opPause))

/-- UNPAUSE (R93). -/
def execUnpause (origin : Origin) (target : Byte) (s : State) : Result :=
  s.afterDue (fun s => s.takeCommand origin target {} (fun s => s.releaseCause .opPause))

/-- HOLD (R104). -/
def execHold (origin : Origin) (target : Byte) (s : State) : Result :=
  s.afterDue (fun s => s.takeCommand origin target {} (fun s => s.raise .opHold))

/-- UNHOLD (R104). -/
def execUnhold (origin : Origin) (target : Byte) (s : State) : Result :=
  s.afterDue (fun s => s.takeCommand origin target {} (fun s => s.releaseCause .opHold))

/-! ### PURGE -/

/-- The idle timer of a READY or ENGAGED brush reloaded (R55). -/
def Channel.reloadIdle (ch : Channel) : Channel :=
  if ch.state == .ready || ch.state == .engaged then { ch with idle := Pace.load ch.cfg.idleTime } else ch

/-- An accepted PURGE (R82, R55). -/
def State.takePurge (s : State) : State :=
  let s1 := s.requestPurge
  s1.setSs (s1.ss.map Channel.reloadIdle)

/-- PURGE (R55, R82); the start test comes with the end of the action (R76). -/
def execPurge (origin : Origin) (target : Byte) (s : State) : Result :=
  s.afterDue (fun s => s.takeCommand origin target {} State.takePurge)

end Sys2Proof.Machine
end

