-- ==== Sys2Proof/Machine/Conveyor.lean ====
section
/-! DEFINITION. The commands of the supply, of the start and of the time base: POWER_ON_RESET, LOSS_OF_SUPPLY, LOADING_END,
ENC_PULSE and TICK. -/

namespace Sys2Proof.Machine

open Sys2Proof

/-- POWER_ON_RESET (R200): power-on reset ends. -/
def execPowerOnReset (s : State) : Result := .next s.powerOn

/-- LOSS_OF_SUPPLY (R200, R208): power-on reset begins to hold the part. -/
def execLossOfSupply (s : State) : Result := .next s.supplyLost

/-- LOADING_END (R201, R204, R205): the image the memory holds is read and judged; nothing is read outside LOADING. -/
def execLoadingEnd (image : ImageBytes) (s : State) : Result :=
  s.afterDue (fun s =>
    if !s.inReset && s.hc.runState == .loading then .next (State.settle {} s (s.endLoading image.toList)) else .next s)

/-! ### ENC_PULSE (R2) -/

/-- PC takes a pulse (R1, R4, R5, R6): at a start pulse v becomes 1. -/
def PulseCounter.pulse (c : PulseCounter) : PulseCounter :=
  { c with
    p := c.p + 1
    v := if c.v = 0 then 1 else c.v
    windowCount := min (c.windowCount + 1) 255
    lastPulseAge := 0 }

/-- The pulse at AC (R150, R160): the start pulse at the entry eye, and the admission gap counter. -/
def State.gatePulse (s : State) (startPulse : Bool) : State :=
  let s1 := if startPulse && s.role == .entry then s.entryStartPulse else s
  s1.setAc { s1.ac with gap := s1.ac.gap.count }

/-- A pulse taken by every block that acts on travel, P first (R2): TS, AC, SS, then the retirement checks (R23, after the
windows a pulse closes) and the δ of each waiting ADMIT (R157). -/
def State.takePulse (startPulse : Bool) (s : State) : State :=
  let s1 := ((s.trainPulse startPulse).gatePulse startPulse).examinePulse.retireAll
  s1.setLp (s1.lp.rewriteDeltas s1.pc.p)

/-- ENC_PULSE (R1, R2): the pulse is counted in every run state; the owners take it from JOINING on. -/
def execEncPulse (s : State) : Result :=
  s.afterDue (fun s =>
    if s.inReset then .next s
    else .next (State.act { pulse := true } s (State.takePulse s.stationary) (s.setPc s.pc.pulse)))

/-! ### TICK (R3, R6, R8, R189, R207) -/

/-- PC takes a tick (R4, R6). -/
def PulseCounter.tick (c : PulseCounter) : PulseCounter :=
  { c with windowTicks := min (c.windowTicks + 1) Config.speedWindow, lastPulseAge := min (c.lastPulseAge + 1) 65535 }

/-- A debounce counter takes a tick (R207): an expiry that finds the levels agreeing has no effect, and so has the release of
the resume key (R103), for which the table has no row; any other expiry is an edge, which is taken in a step of its own (log
entry 14). -/
def Debounced.tick (pin : InputPin) (x : Debounced) : Debounced :=
  let c := x.counter.count
  if c.ranOut && (x.pin == x.level || (pin == .resumeKey && !x.pin)) then { x with level := x.pin, counter := Pace.idle }
  else { x with counter := c }

/-- A channel's counters take a tick, and a brush's drive period is one tick older, up to its 8 (R57). -/
def Channel.tick (ch : Channel) : Channel :=
  { ch with
    idle := ch.idle.count
    sustain := ch.sustain.count
    hot := ch.hot.count
    holdOff := ch.holdOff.count
    sample := ch.sample.count
    runOn := ch.runOn.count
    drivePhase := min (ch.drivePhase + 1) Config.drivePeriod }

/-- What SU keeps for a lane takes a tick. -/
def LaneSales.tick (l : LaneSales) : LaneSales := { l with timeout := l.timeout.count }

/-- Every TIME counter of the part takes one tick (R8), PC ages, and a keeper with an answer in its list has a step to take
(R196). -/
def State.countTick (s : State) : State :=
  { s with
    inputs := s.inputs.map Debounced.tick
    pc := s.pc.tick
    cl := { s.cl with faultBeacon := s.cl.faultBeacon.count }
    ts := { s.ts with sync := s.ts.sync.count, answerDue := !s.ts.answers.isEmpty }
    ss := s.ss.map Channel.tick
    ps := { s.ps with interval := s.ps.interval.count, duration := s.ps.duration.count }
    hc := { s.hc with stop := s.hc.stop.count, standby := s.hc.standby.count }
    pt := { s.pt with beacon := s.pt.beacon.count, join := s.pt.join.count }
    su := { s.su with laneA := s.su.laneA.tick, laneB := s.su.laneB.tick }
    ac := { s.ac with callTimeout := s.ac.callTimeout.count } }

/-- TICK (R3): in every run state; the peers age, and one that falls silent raises SILENT (R189, R190). Readers of that SILENT
may cancel or load a counter that this very tick has brought to 0 (R52, R79, R107, R155); R9 says what either order gives, and
not which the tick takes: the load or cancel counts as taken first, and its expiry is given up. DESIGN CHOICE (log entry 1). -/
def execTick (s : State) : Result :=
  s.afterDue (fun s => if s.inReset then .next s else .next (State.act {} s State.agePeers s.countTick))

end Sys2Proof.Machine
end

