-- ==== Sys2Proof/Machine/Frames.lean ====
section
/-! DEFINITION. The frames of stations and kiosks: HALT, RELEASE, the car frames, FLOW, REPORT, the sync frames, the sales
frames, BEACON, and a frame of this station's own origin. -/

namespace Sys2Proof.Machine

open Sys2Proof

/-! ### HALT and RELEASE (R84, R88) -/

/-- The cause of a rank added to a peer's set. -/
def State.peerRaises (s : State) (o : Origin) (rank : Byte) : State :=
  match causeOfRank rank with
  | some c => s.updatePeer o.toNat (fun r => { r with causes := addCause r.causes c })
  | none => s

/-- The cause of a rank removed from a peer's set. -/
def State.peerReleases (s : State) (o : Origin) (rank : Byte) : State :=
  match causeOfRank rank with
  | some c => s.updatePeer o.toNat (fun r => { r with causes := dropCause r.causes c })
  | none => s

/-- HALT (R84, R88): the grade and current rank fields are not used. -/
def execHalt (origin : Origin) (cause _grade _current : Byte) (s : State) : Result :=
  s.afterDue (fun s => s.takeFrame origin {} (fun s => s.peerRaises origin cause))

/-- RELEASE (R88). -/
def execRelease (origin : Origin) (cause : Byte) (s : State) : Result :=
  s.afterDue (fun s => s.takeFrame origin {} (fun s => s.peerReleases origin cause))

/-! ### Car frames (R20, R21, R26) -/

/-- An ADMIT from the ENTRY (R20). -/
def State.takeAdmit (t : Ticket) (delta : Byte) (services : ServiceSet) (intensity : Byte) (s : State) : State :=
  if t = 0 || s.holds t then s
  else s.placeCar s.ts.train.length delta.toNat (freshCar t services (intensityOf intensity))

/-- An ADMIT of this ticket places a car in an empty train (R20, R109): no car stands in the way of it (R19). -/
def State.admitsFirst (s : State) (t : Ticket) : Bool := t != 0 && s.ts.train.isEmpty

/-- ADMIT (R20, R19, R14), a break event where the train was empty (R109); the lane field is not kept. -/
def execAdmit (origin : Origin) (t : Ticket) (delta : Byte) (services : ServiceSet) (intensity _lane : Byte) (s : State) :
    Result :=
  s.afterDue (fun s =>
    s.takeWhen origin (s.fromRole origin .entry) { firstCar := s.admitsFirst t } (State.takeAdmit t delta services intensity))

/-- LENGTH (R21, R22, R49). -/
def execLength (origin : Origin) (t : Ticket) (len : Half) (s : State) : Result :=
  s.afterDue (fun s => s.takeWhen origin (s.fromRole origin .entry) {} (fun s => s.fillLength t len.toNat))

/-- A DEPART from the EXIT (R26, R145). -/
def State.takeDepart (t : Ticket) (lost : Byte) (s : State) : State :=
  let s1 := s.removeCar t
  let s2 := s1.setTs { s1.ts with recent := enterRecent t s1.ts.recent }
  if s2.role == .entry then s2.setSu { s2.su with credits := settleCredit t (lost != 0) s2.su.credits } else s2

/-- DEPART (R26, R27, R145). -/
def execDepart (origin : Origin) (t : Ticket) (lost : Byte) (s : State) : Result :=
  s.afterDue (fun s => s.takeWhen origin (s.fromRole origin .exit) {} (State.takeDepart t lost))

/-! ### FLOW (R69) -/

/-- A peer's claim recorded (R69). -/
def State.takeFlow (o : Origin) (claim : Byte) (newest : Ticket) (s : State) : State :=
  s.updatePeer o.toNat (fun r => { r with claim := min claim.toNat 60, newest := newest })

/-- FLOW (R69): the shed test and the retries come with the end of the action. -/
def execFlow (origin : Origin) (claim : Byte) (newest : Ticket) (s : State) : Result :=
  s.afterDue (fun s =>
    s.takeWhen origin (s.role == .arch && s.expects origin) { claims := true } (State.takeFlow origin claim newest))

/-! ### REPORT (R144) -/

/-- A REPORT credits the entry of its ticket. -/
def State.takeReport (t : Ticket) (missed : ServiceSet) (s : State) : State :=
  s.setSu { s.su with credits := updateCredit t (Credit.addCodes s.su.catalogue.values missed) s.su.credits }

/-- REPORT (R144): the given set is not read. -/
def execReport (origin : Origin) (t : Ticket) (_given missed : ServiceSet) (s : State) : Result :=
  s.afterDue (fun s => s.takeWhen origin (s.role == .entry && s.fromRole origin .arch) {} (State.takeReport t missed))

/-! ### Sync (R195, R197, R198) -/

/-- SYNC_REQ (R195, R196). -/
def execSyncReq (origin : Origin) (keeper : Byte) (s : State) : Result :=
  s.afterDue (fun s => s.takeFrame origin {} (fun s => s.takeSyncReq origin keeper))

/-- SYNC_CAR (R197). -/
def execSyncCar (origin : Origin) (joiner : Byte) (t : Ticket) (front len : Half) (services : ServiceSet) (intensity : Byte)
    (s : State) : Result :=
  s.afterDue (fun s =>
    s.takeFrame origin {} (fun s =>
      if s.takesSync origin joiner then s.takeSyncCar t front len services intensity else s))

/-- SYNC_END (R198). -/
def execSyncEnd (origin : Origin) (joiner count : Byte) (s : State) : Result :=
  s.afterDue (fun s => s.takeFrame origin {} (fun s => if s.takesSync origin joiner then s.takeSyncEnd count else s))

/-! ### Sales answers heard (R189) -/

/-- QUOTE at a station (R170, R189): delivered to no block; its sender is heard. -/
def execQuote (origin : Origin) (_lane : Byte) (_sale : SaleNo) (_result : Byte) (_subtotal _applied _due : Half) (s : State) :
    Result :=
  s.afterDue (fun s => s.takeFrame origin {} id)

/-- PAID at a station (R170, R189). -/
def execPaid (origin : Origin) (_lane : Byte) (_sale : SaleNo) (_ticket : Ticket) (_change : Half) (s : State) : Result :=
  s.afterDue (fun s => s.takeFrame origin {} id)

/-- VOID at a station (R170, R189). -/
def execVoid (origin : Origin) (_lane : Byte) (_sale : SaleNo) (_reason : Byte) (_refund : Half) (s : State) : Result :=
  s.afterDue (fun s => s.takeFrame origin {} id)

/-! ### Sales frames (R129) -/

/-- SELECT (R130, R131, R132). -/
def execSelect (origin : Origin) (lane plan addOns tier : Byte) (credit : Ticket) (s : State) : Result :=
  s.afterDue (fun s => s.takeSales origin lane (fun l s => s.takeSelect l plan addOns tier credit))

/-- TENDER (R133, R136). -/
def execTender (origin : Origin) (lane : Byte) (sale : SaleNo) (amount : Half) (s : State) : Result :=
  s.afterDue (fun s => s.takeSales origin lane (fun l s => s.takeTender l sale amount.toNat))

/-- CANCEL (R138). -/
def execCancel (origin : Origin) (lane : Byte) (sale : SaleNo) (s : State) : Result :=
  s.afterDue (fun s => s.takeSales origin lane (fun l s => s.takeCancel l sale))

/-! ### BEACON (R187) -/

/-- What a beacon of a peer is to its readers (R187). -/
def State.beaconOccasion (s : State) (o : Origin) (roleState : Byte) : Occasion where
  claims := true
  keeperBeacon := s.fromRole o .drive || s.fromRole o .exit
  driveBeacon := s.fromRole o .drive
  entryRuns := s.fromRole o .entry && beaconState roleState == .run

/-- BEACON (R187 to R192). -/
def execBeacon (origin : Origin) (roleState : Byte) (causes : BitVec 24) (trainCount : Byte) (p : Pulse) (claim : Byte)
    (newest : Ticket) (digest : Half) (_inTunnel : Byte) (s : State) : Result :=
  s.afterDue (fun s =>
    s.takeWhen origin (s.expects origin) (s.beaconOccasion origin roleState)
      (fun s => s.takeBeacon origin roleState causes trainCount p claim newest digest))

/-- OWN_ORIGIN_FRAME (R171): another party uses this station's number. -/
def execOwnOriginFrame (s : State) : Result :=
  s.afterDue (fun s => s.perform {} (fun s => s.raise .mismatch))

end Sys2Proof.Machine
end

