-- ==== Sys2Proof/Machine/Levels.lean ====
section
/-! DEFINITION. The commands that change the level at an input: PIN_LEVEL_CHANGE and OVER_TEMP_CHANGE (R207). -/

namespace Sys2Proof.Machine

open Sys2Proof

/-! ### Pin changes (R207) -/

/-- The debounced input of a pin after a change of its level: the counter is loaded; while reset holds the part nothing counts. -/
def State.changedPin (s : State) (pin : InputPin) (active : Bool) : Debounced :=
  let x := s.inputs.get pin
  { x with pin := active, counter := if s.inReset then x.counter else Pace.load (debounceTime pin) }

/-- PIN_LEVEL_CHANGE (R207): the pin takes the level. A pin that stands at the level already has not changed. -/
def execPinLevelChange (pin : InputPin) (active : Bool) (s : State) : Result :=
  s.afterDue (fun s =>
    if (s.inputs.get pin).pin == active then .next s else .next (s.setInput pin (s.changedPin pin active)))

/-! ### Over-temperature (R58) -/

/-- The raw level of an over-temperature input replaced. -/
def State.setOverTemp (s : State) (ch : ChannelNo) (asserted : Bool) : State :=
  s.setInputs { s.inputs with overTemp := s.inputs.overTemp.set ch.val asserted ch.isLt }

/-- A brush records the level and loads its thermal sustain counter (R58). -/
def State.recordOverTemp (s : State) (i : Nat) (asserted : Bool) : State :=
  match s.ss[i]? with
  | some ch =>
    if ch.cfg.kind == .brush then
      s.setChannel i { ch with recorded := asserted, sustain := Pace.load Config.thermalSustain }
    else s
  | none => s

/-- OVER_TEMP_CHANGE (R58, R207): an input that stands at the level already has not changed. -/
def execOverTempChange (ch : ChannelNo) (asserted : Bool) (s : State) : Result :=
  s.afterDue (fun s =>
    if s.inputs.overTemp.get ch == asserted then .next s
    else .next (State.act {} s (fun s => s.recordOverTemp ch.val asserted) (s.setOverTemp ch asserted)))

end Sys2Proof.Machine
end

