-- ==== Sys2Proof/Machine/Dispatch.lean ====
section
/-! DEFINITION. One arm for each command: its meaning. -/

namespace Sys2Proof.Machine

open Sys2Proof

/-- The effect of a command on everything but the queue of waiting commands. -/
def exec (i : Instr) (s : State) : Host.Outcome State Fault Refusal :=
  match i with
  | .powerOnReset => Sys2Proof.Machine.execPowerOnReset s
  | .lossOfSupply => Sys2Proof.Machine.execLossOfSupply s
  | .loadingEnd image => Sys2Proof.Machine.execLoadingEnd image s
  | .encPulse => Sys2Proof.Machine.execEncPulse s
  | .tick => Sys2Proof.Machine.execTick s
  | .speedWindowEnd => Sys2Proof.Machine.execSpeedWindowEnd s
  | .pinLevelChange pin active => Sys2Proof.Machine.execPinLevelChange pin active s
  | .eyeBlockEdge => Sys2Proof.Machine.execEyeBlockEdge s
  | .eyeClearEdge => Sys2Proof.Machine.execEyeClearEdge s
  | .estopFallingEdge => Sys2Proof.Machine.execEstopFallingEdge s
  | .estopRisingEdge => Sys2Proof.Machine.execEstopRisingEdge s
  | .pauseInputAsserted => Sys2Proof.Machine.execPauseInputAsserted s
  | .pauseInputDeasserted => Sys2Proof.Machine.execPauseInputDeasserted s
  | .resumeKeyPress => Sys2Proof.Machine.execResumeKeyPress s
  | .chemLowAsserted => Sys2Proof.Machine.execChemLowAsserted s
  | .chemLowDeasserted => Sys2Proof.Machine.execChemLowDeasserted s
  | .freezeAsserted => Sys2Proof.Machine.execFreezeAsserted s
  | .freezeDeasserted => Sys2Proof.Machine.execFreezeDeasserted s
  | .lanePresenceChange lane active => Sys2Proof.Machine.execLanePresenceChange lane active s
  | .overTempChange ch asserted => Sys2Proof.Machine.execOverTempChange ch asserted s
  | .thermalSustainExpiry ch => Sys2Proof.Machine.execThermalSustainExpiry ch s
  | .currentSample ch reading => Sys2Proof.Machine.execCurrentSample ch reading s
  | .holdOffExpiry ch => Sys2Proof.Machine.execHoldOffExpiry ch s
  | .hotTimerExpiry ch => Sys2Proof.Machine.execHotTimerExpiry ch s
  | .idleTimerExpiry ch => Sys2Proof.Machine.execIdleTimerExpiry ch s
  | .brushDrivePeriod ch => Sys2Proof.Machine.execBrushDrivePeriod ch s
  | .runOnExpiry ch => Sys2Proof.Machine.execRunOnExpiry ch s
  | .purgeIntervalExpiry => Sys2Proof.Machine.execPurgeIntervalExpiry s
  | .purgeDurationExpiry => Sys2Proof.Machine.execPurgeDurationExpiry s
  | .stopWindowExpiry => Sys2Proof.Machine.execStopWindowExpiry s
  | .standbyExpiry => Sys2Proof.Machine.execStandbyExpiry s
  | .saleTimeoutExpiry lane => Sys2Proof.Machine.execSaleTimeoutExpiry lane s
  | .callTimeoutExpiry => Sys2Proof.Machine.execCallTimeoutExpiry s
  | .admissionGapExpiry => Sys2Proof.Machine.execAdmissionGapExpiry s
  | .beaconPeriodExpiry => Sys2Proof.Machine.execBeaconPeriodExpiry s
  | .faultBeaconPeriod => Sys2Proof.Machine.execFaultBeaconPeriod s
  | .joinTimeout => Sys2Proof.Machine.execJoinTimeout s
  | .syncTimeout => Sys2Proof.Machine.execSyncTimeout s
  | .syncAnswerStep => Sys2Proof.Machine.execSyncAnswerStep s
  | .halt origin cause grade current => Sys2Proof.Machine.execHalt origin cause grade current s
  | .release origin cause => Sys2Proof.Machine.execRelease origin cause s
  | .resume origin target => Sys2Proof.Machine.execResume origin target s
  | .clearTrain origin target => Sys2Proof.Machine.execClearTrain origin target s
  | .restart origin target => Sys2Proof.Machine.execRestart origin target s
  | .pause origin target => Sys2Proof.Machine.execPause origin target s
  | .unpause origin target => Sys2Proof.Machine.execUnpause origin target s
  | .hold origin target => Sys2Proof.Machine.execHold origin target s
  | .unhold origin target => Sys2Proof.Machine.execUnhold origin target s
  | .purge origin target => Sys2Proof.Machine.execPurge origin target s
  | .admitCar origin ticket delta services intensity lane => Sys2Proof.Machine.execAdmit origin ticket delta services intensity lane s
  | .length origin ticket n => Sys2Proof.Machine.execLength origin ticket n s
  | .depart origin ticket lost => Sys2Proof.Machine.execDepart origin ticket lost s
  | .flow origin claim newest => Sys2Proof.Machine.execFlow origin claim newest s
  | .report origin ticket given missed => Sys2Proof.Machine.execReport origin ticket given missed s
  | .syncReq origin keeper => Sys2Proof.Machine.execSyncReq origin keeper s
  | .syncCar origin joiner ticket front n services intensity => Sys2Proof.Machine.execSyncCar origin joiner ticket front n services intensity s
  | .syncEnd origin joiner count => Sys2Proof.Machine.execSyncEnd origin joiner count s
  | .quote origin lane sale result subtotal applied due => Sys2Proof.Machine.execQuote origin lane sale result subtotal applied due s
  | .paid origin lane sale ticket change => Sys2Proof.Machine.execPaid origin lane sale ticket change s
  | .void origin lane sale reason refund => Sys2Proof.Machine.execVoid origin lane sale reason refund s
  | .select origin lane plan addOns tier credit => Sys2Proof.Machine.execSelect origin lane plan addOns tier credit s
  | .tender origin lane sale amount => Sys2Proof.Machine.execTender origin lane sale amount s
  | .cancel origin lane sale => Sys2Proof.Machine.execCancel origin lane sale s
  | .beacon origin roleState causes trainCount p claim newest digest inTunnel => Sys2Proof.Machine.execBeacon origin roleState causes trainCount p claim newest digest inTunnel s
  | .ownOriginFrame => Sys2Proof.Machine.execOwnOriginFrame s
  | .sendAttemptStart => Sys2Proof.Machine.execSendAttemptStart s
  | .attemptLost => Sys2Proof.Machine.execAttemptLost s
  | .attemptFailed => Sys2Proof.Machine.execAttemptFailed s
  | .attemptSucceeded => Sys2Proof.Machine.execAttemptSucceeded s
  | .dominantLineStretch => Sys2Proof.Machine.execDominantLineStretch s

end Sys2Proof.Machine
end

