-- ==== Sys2Proof/Machine/Step.lean ====
section
/-! DEFINITION. One step: the command at the front of the queue is taken. The part fetches no program; commands come from
outside, and withFetchWord stands for one that arrives (log entry 3). -/

namespace Sys2Proof.Machine

open Sys2Proof

/-- One step: the waiting command at the front of the queue, executed with the rest of the queue; on an empty queue the part
idles (log entry 3). -/
def step (s : State) : Host.Outcome State Fault Refusal :=
  match s.pending with
  | [] => .next s
  | c :: rest => exec c (s.setPending rest)

/-- The state with a command put at the front of its queue. -/
def State.pushFront (s : State) (c : Instr) : State := s.setPending (c :: s.pending)

/-- The state with the command that a word of the table spells put at the front of its queue; the table gives no row bits, so
no word spells one. -/
def State.withFetchWord (s : State) (nbits w : Nat) : State :=
  match decodeTableWord nbits w with
  | some c => s.pushFront c
  | none => s

end Sys2Proof.Machine
end

