-- ==== Sys2Proof/Safety.lean ====
section
/-! DEFINITION. What statements about the machine speak of: the laws that every step keeps, outputs that are off, and what a
command leaves alone. -/

namespace Sys2Proof.Machine

open Sys2Proof

/-! ### The train (R18) -/

/-- The law of the train: at most 24 cars, no ticket twice, fronts strictly decreasing from oldest to newest, and no mark more
than 16,383 behind P, so that no front is clamped from further on (R10, R13); a station that is not yet in JOINING holds none. -/
def TrainLaw (s : State) : Prop :=
  (s.active = false → s.ts.train = []) ∧ s.ts.train.length ≤ 24 ∧ (ticketsOf s.ts.train).Nodup ∧
    (s.ts.train.map (fun c => c.front s.pc.p)).Pairwise (fun x y => y < x) ∧
    ∀ c ∈ s.ts.train, (s.pc.p - c.mark).toNat ≤ 16383

/-- The cars as a rule that moves none of them leaves them: ticket, mark, length, services, intensity, synced. -/
def Car.core (c : Car) : Ticket × Pulse × Option Nat × ServiceSet × Nat × Bool :=
  (c.ticket, c.mark, c.length, c.services, c.intensity, c.synced)

/-! ### The transmit queue (R172, R174, R175) -/

/-- The law of the transmit queue: at most 16 frames, in order of kind code, at most one BEACON and one FLOW waiting, and no
HALT and RELEASE of one cause waiting together. -/
def QueueLaw (lp : LinePort) : Prop :=
  lp.size ≤ 16 ∧ (lp.waiting.map Queued.kind).Pairwise (fun x y => x ≤ y) ∧
    (lp.waiting.map Queued.kind).count 18 ≤ 1 ∧ (lp.waiting.map Queued.kind).count 7 ≤ 1 ∧
    lp.waiting.Pairwise (fun f g => f.frame.partner g.frame = false)

/-! ### Credits and tickets (R135, R142) -/

/-- A sale that drew on a credit drew no more than the cap it records (R132). -/
def Sale.drawn (x : Sale) : Prop := x.creditTicket ≠ 0 → x.applied ≤ x.creditCap

/-- The sales of SU: the open one of each lane and both queues. -/
def SalesUnit.sales (u : SalesUnit) : List Sale :=
  u.laneA.openSale.toList ++ u.laneB.openSale.toList ++ u.laneA.queue ++ u.laneB.queue

/-- The tickets of both lane queues and of the credit table. -/
def SalesUnit.tickets (u : SalesUnit) : List Ticket :=
  u.laneA.queue.map (fun x => x.ticket) ++ u.laneB.queue.map (fun x => x.ticket) ++ u.credits.map (fun e => e.ticket)

/-- The law of SU: at most 32 entries, none above its cap; at most four tickets in a lane queue; no ticket twice in the queues
and the credit table together; an open sale leaves its queue short of four (R130); a draw within its cap. -/
def SalesLaw (u : SalesUnit) : Prop :=
  u.credits.length ≤ 32 ∧ (∀ e ∈ u.credits, e.amount ≤ e.cap) ∧
    u.laneA.queue.length ≤ 4 ∧ u.laneB.queue.length ≤ 4 ∧ u.tickets.Nodup ∧
    (u.laneA.openSale.isSome → u.laneA.queue.length < 4) ∧ (u.laneB.openSale.isSome → u.laneB.queue.length < 4) ∧
    ∀ x ∈ u.sales, x.drawn

/-! ### Service progress (R46, R47) -/

/-- The law of the progress lists: a station that is not yet in JOINING has no car and no channel, a station that is no ARCH has
no channel, and every car holds one progress entry for each channel. -/
def ProgressLaw (s : State) : Prop :=
  (s.active = false → s.ts.train = [] ∧ s.ss = []) ∧ (s.role ≠ .arch → s.ss = []) ∧
    ∀ c ∈ s.ts.train, c.progress.length = s.ss.length

/-! ### REPORTs (R50) -/

/-- The car has been served: every entry of its progress list is final, and one is GIVEN or MISSED (R50). -/
def Car.served (c : Car) : Prop :=
  (∀ e ∈ c.progress, e.value.final = true) ∧ ∃ e ∈ c.progress, e.value = .given ∨ e.value = .missed

/-- The law of the REPORTs: no car that has been served stands unreported. -/
def ReportLaw (s : State) : Prop := ∀ c ∈ s.ts.train, c.served → c.reported = true

/-- The two sets of a car's REPORT (R50): a code is missed where a channel with that code has missed the car, and given where
there is such a channel and every one has given. -/
def ReportSets (s : State) (c : Car) (given missed : ServiceSet) : Prop :=
  ∀ code : Nat, code < 16 →
    (missed.getLsbD code = true ↔ ∃ x ∈ s.ss.zipIdx, x.1.cfg.code = code ∧ c.progressAt x.2 = .missed) ∧
    (given.getLsbD code = true ↔ (∃ ch ∈ s.ss, ch.cfg.code = code) ∧
      ∀ x ∈ s.ss.zipIdx, x.1.cfg.code = code → c.progressAt x.2 = .given)

/-! ### The eye at a pulse (R30, R35) -/

/-- The station as TS finds it at a pulse, before the eye: P counted, fronts held at 16,383 and in order (R1, R13, R25). -/
def State.pulsed (s : State) : State := (s.setPc s.pc.pulse).setTrain (keepOrder (s.pc.p + 1) none s.ts.train)

/-- The reconciler samples the debounced level at the pulse that finds the station so: at a start pulse with the held flag clear,
or at the pulse that clears it (R30, R35). -/
def SamplesEye (s : State) : Prop :=
  s.reconciles = true ∧ ((s.ts.held = false ∧ s.pc.v = 0) ∨ (s.ts.held = true ∧ s.hc.runState.settled = true))

/-- The phase of the eye stands, but that a matched car that has left makes it UNMATCHED (R27). -/
def PhaseStands (s t : State) : Prop :=
  t.ts.phase = s.ts.phase ∨ ∃ k, s.ts.phase = .matched k ∧ t.ts.phase = .unmatched ∧ t.holds k = false

/-! ### Water (R67, R75) -/

/-- FB's two values are what its channels and the train give (R67); a station with no channels claims nothing. -/
def ClaimLaw (s : State) : Prop :=
  s.fb.claim = claimOf s.ss ∧ s.fb.newest = s.newestServed ∧ (s.active = false ∨ s.role ≠ .arch → s.ss = [])

/-- The law of the purge debt (R75): at most 4, and 0, with the interval counter IDLE, while FREEZE is deasserted or PS is not
active. -/
def PurgeLaw (s : State) : Prop :=
  s.ps.debt ≤ 4 ∧
    (s.inputs.freeze.level = false ∨ s.purgeActive = false → s.ps.debt = 0 ∧ s.ps.interval = Pace.idle)

/-! ### Brush level (R56) -/

/-- The raw level of a brush: 2·I·v/v_nom rounded up (R56). -/
def rawLevel (intensity v vNom : Nat) : Nat := (2 * intensity * v + vNom - 1) / vNom

/-- What R56 says of the channel at i: the level 0 when it is not ENGAGED or v is 0, and otherwise the raw level raised to 1,
lowered to 8, and lowered to the thermal cap under override. -/
def Channel.levelRight (s : State) (i : Nat) (ch : Channel) : Prop :=
  ch.level =
    if ch.cfg.kind = .brush ∧ ch.state = .engaged ∧ s.pc.v ≠ 0 then
      let l := min 8 (max 1 (rawLevel (largestIntensity i s.ts.train) s.pc.v s.cl.constants.vNom))
      if ch.override = true then min l ch.cfg.thermalCap else l
    else 0

/-- Every channel's level is what R56 gives; a station that is not yet in JOINING has no channels. -/
def LevelLaw (s : State) : Prop :=
  (s.active = false → s.ss = []) ∧ ∀ i ch, s.ss[i]? = some ch → Channel.levelRight s i ch

/-! ### Halts and standby (R52, R79, R95, R96, R107) -/

/-- The station is idle, as R107 lists it. -/
def StationIdle (s : State) : Prop :=
  s.hc.runState = .run ∧ s.ts.train = [] ∧
    (∀ ch ∈ s.ss, ch.state = .parked ∨ ch.state = .closed ∨ ch.state = .off) ∧ s.ps.purge = .none ∧
    if s.role = .entry then ∀ l : Lane, (s.su.lane l).queue = []
    else ∀ r, s.peerOfRole .entry = some r → r.reported ≠ some .run

/-- A channel stopped as R52 and R65 stop it: SUSPENDED, level and over run 0, the motor off, the idle timer, hold-off, HOT timer
and run-on cancelled. -/
def Channel.stopped (ch : Channel) : Prop :=
  ch.state = .suspended ∧ ch.level = 0 ∧ ch.overRun = 0 ∧ ch.onTime = 0 ∧ ch.runOnCar = none ∧
    ch.idle = Pace.idle ∧ ch.holdOff = Pace.idle ∧ ch.hot = Pace.idle ∧ ch.runOn = Pace.idle

/-- The law of the halts: STARTUP is held throughout LOADING (R87); before JOINING there is no channel, no purge, no stop window
and no standby counter; while the view holds a cause of grade H or P every channel stands SUSPENDED and no purge runs, and at no
other time is a channel SUSPENDED (R52, R53, R79) or a stop window open (R96); the standby counter lasts exactly while the
station is idle (R107). -/
def HaltLaw (s : State) : Prop :=
  (s.inReset = false → s.hc.runState = .loading → s.owns .startup = true) ∧
  (s.active = false → s.ss = [] ∧ s.ps.purge = .none ∧ s.hc.stop = Pace.idle ∧ s.hc.standby = Pace.idle) ∧
  (s.halted = true → (∀ ch ∈ s.ss, ch.stopped) ∧ s.ps.purge = .none) ∧
  (s.halted = false → (∀ ch ∈ s.ss, ch.state ≠ .suspended) ∧ s.hc.stop = Pace.idle) ∧
  (StationIdle s → s.hc.standby.lasts = true) ∧ (¬ StationIdle s → s.hc.standby = Pace.idle)

/-! ### The states of the channels (R54, R55, R62 to R64, R66, R77) -/

/-- What the state of the channel at i says of the windows, outside halts. A brush is ENGAGED while it has a window open, but for
one that STANDBY keeps PARKED; a READY brush has its idle timer, a PARKED one none, and the hold-off and the HOT timer are an
ENGAGED brush's alone. A spray is PURGING while a purge runs, and else CLOSED without a window open, OPEN or DEFERRED with one. A
dryer is RUNNING while a car is in its pulse part, and RUN-ON while a run-on lasts. -/
def Channel.stateRight (s : State) (i : Nat) (ch : Channel) : Prop :=
  match ch.cfg.kind with
  | .brush => (ch.state = .parked ∨ ch.state = .ready ∨ ch.state = .engaged) ∧
      (ch.state = .engaged → windowOpen i s.ts.train = true) ∧
      (windowOpen i s.ts.train = true → ch.state = .engaged ∨ (ch.state = .parked ∧ s.hc.runState = .standby)) ∧
      (ch.state = .ready → ch.idle.lasts = true) ∧ (ch.state = .parked → ch.idle = Pace.idle) ∧
      (ch.state ≠ .engaged → ch.holdOff = Pace.idle ∧ ch.hot = Pace.idle)
  | .spray => (s.ps.purge ≠ .none → ch.state = .purging) ∧
      (s.ps.purge = .none → if windowOpen i s.ts.train = true then ch.state = .opened ∨ ch.state = .deferred
        else ch.state = .closed)
  | .dryer => (ch.state = .off ∨ ch.state = .running ∨ ch.state = .runOn) ∧
      (ch.state = .running ↔ ch.pulsePartOpen i s.ts.train = true) ∧ (ch.state = .runOn → ch.runOn.lasts = true)

/-- The law of the channel states: outside halts every channel's state is the one that its windows give; a station that is not
yet in JOINING or is no ARCH has no channels (R42). -/
def ChannelLaw (s : State) : Prop :=
  (s.active = false ∨ s.role ≠ .arch → s.ss = []) ∧
    (s.halted = false → ∀ i ch, s.ss[i]? = some ch → Channel.stateRight s i ch)

/-! ### Purges due and shedding (R71, R72, R76, R78) -/

/-- The conditions under which PS starts a purge: a forced one (R78), or a normal one (R76), whose start test leaves the budget
its room (R70). -/
def PurgeDue (s : State) : Prop :=
  s.purgeActive = true ∧ s.ps.purge = .none ∧ s.halted = false ∧
    (s.ps.debt = 4 ∨
      ((0 < s.ps.debt ∨ s.ps.request = true) ∧ s.ps.debt < 4 ∧
        (∀ ch ∈ s.ss, ch.cfg.kind = .spray → ch.state ≠ .opened ∧ ch.state ≠ .deferred) ∧
        (∀ i ch, s.ss[i]? = some ch → ch.cfg.kind = .spray → windowOpen i s.ts.train = false) ∧
        claimOf s.ss + s.peerClaims + s.purgeDemand ≤ s.cl.constants.budget))

/-- The station qualifies to shed (R71, R72): its total is above the budget, it claims, no forced purge runs, and it is the
newest of those that claim: a normal purge is newer than any, and of two serving cars the newer ticket, the higher station
between tickets that R16 leaves unordered. -/
def ShedDue (s : State) : Prop :=
  s.cl.constants.budget < s.totalClaim ∧ s.fb.claim ≠ 0 ∧ s.ps.purge ≠ .forced ∧
    (s.ps.purge = .normal ∨ ∀ r ∈ s.pt.peers, r.claim = 0 ∨ r.newest = 0 ∨ ticketOlder r.newest s.fb.newest = true ∨
      (ticketOlder s.fb.newest r.newest = false ∧ r.station < s.cl.constants.station))

/-! ### The gate (R140, R154, R161) -/

/-- The law of the limit in force at the ENTRY (R161): it is the admission limit, or the in-tunnel count where that stood
higher; the count never exceeds it, and stands below it while a lane is called (R151); before JOINING the gate is SHUT
(R148). -/
def LimitLaw (s : State) : Prop :=
  (s.active = false → s.ac.gate = .shut) ∧
  (s.active = true → s.role = .entry →
    s.inTunnel ≤ s.ac.limit ∧
      (s.ac.limit = s.cl.constants.admissionLimit ∨
        (s.cl.constants.admissionLimit < s.ac.limit ∧ s.ac.limit = s.inTunnel)) ∧
      ∀ l, s.ac.gate = .calling l → s.inTunnel < s.ac.limit)

/-- The law of the call (R140, R149, R154, R155): the sales of a lane queue behind its head are PAID, and the head is CALLED
exactly when the gate is CALLING the lane; before JOINING the gate is SHUT; and at the ENTRY a call stands only in RUN under a
view without a cause. -/
def CallLaw (s : State) : Prop :=
  (∀ l, (∀ x ∈ (s.su.lane l).queue.tail, x.state = .paid) ∧
    (∀ x, s.head l = some x → x.state = if s.ac.gate.calls l then .called else .paid) ∧
    (s.head l = none → s.ac.gate.calls l = false)) ∧
    (s.active = false → s.ac.gate = .shut) ∧
    ∀ l, s.ac.gate = .calling l → s.role = .entry → s.grade = none ∧ s.hc.runState = .run

/-! ### Outputs (R98, R208) -/

/-- Every field output stands in its off state, and the safety chain is open (R98, R208). -/
def OutputsOff (s : State) : Prop :=
  s.safeOutput = false ∧ s.runOutput = false ∧ s.lampOutput .a = false ∧ s.lampOutput .b = false ∧
    ∀ ch : ChannelNo, s.driveOutput ch = false ∧ s.armOutLine ch = false ∧ s.armHoldLine ch = false

/-! ### Commands that wait for a counter (R4, R8, R57, R207) -/

/-- A counter of channel i has run out. -/
def State.channelDue (s : State) (i : Nat) (counter : Channel → Pace) : Bool :=
  match s.ss[i]? with
  | some ch => (counter ch).ranOut
  | none => false

/-- The drive period of the brush at channel i is over. -/
def State.periodDue (s : State) (i : Nat) : Bool :=
  match s.ss[i]? with
  | some ch => ch.periodOver
  | none => false

/-- The event that a command stands for is due: the counter of an expiry has run out, the debounce counter of an edge has and
finds its levels apart, the window or period is over, the tick of a keeper's step has come. A command that stands for no such
event is always due. -/
def State.due (s : State) (c : Instr) : Bool :=
  match c with
  | .syncAnswerStep => s.ts.answerDue
  | .speedWindowEnd => s.pc.windowOver
  | .eyeBlockEdge => s.inputs.eye.due true
  | .eyeClearEdge => s.inputs.eye.due false
  | .estopFallingEdge => s.inputs.estop.due true
  | .estopRisingEdge => s.inputs.estop.due false
  | .pauseInputAsserted => s.inputs.pause.due true
  | .pauseInputDeasserted => s.inputs.pause.due false
  | .resumeKeyPress => s.inputs.resumeKey.due true
  | .chemLowAsserted => s.inputs.chemLow.due true
  | .chemLowDeasserted => s.inputs.chemLow.due false
  | .freezeAsserted => s.inputs.freeze.due true
  | .freezeDeasserted => s.inputs.freeze.due false
  | .lanePresenceChange l x => (s.inputs.get (presencePin l)).due x
  | .thermalSustainExpiry i => s.channelDue i.val (fun ch => ch.sustain)
  | .currentSample i _ => s.channelDue i.val (fun ch => ch.sample)
  | .holdOffExpiry i => s.channelDue i.val (fun ch => ch.holdOff)
  | .hotTimerExpiry i => s.channelDue i.val (fun ch => ch.hot)
  | .idleTimerExpiry i => s.channelDue i.val (fun ch => ch.idle)
  | .brushDrivePeriod i => s.periodDue i.val
  | .runOnExpiry i => s.channelDue i.val (fun ch => ch.runOn)
  | .purgeIntervalExpiry => s.ps.interval.ranOut
  | .purgeDurationExpiry => s.ps.duration.ranOut
  | .stopWindowExpiry => s.hc.stop.ranOut
  | .standbyExpiry => s.hc.standby.ranOut
  | .saleTimeoutExpiry l => (s.su.lane l).timeout.ranOut
  | .callTimeoutExpiry => s.ac.callTimeout.ranOut
  | .admissionGapExpiry => s.ac.gap.ranOut
  | .beaconPeriodExpiry => s.pt.beacon.ranOut
  | .faultBeaconPeriod => s.cl.faultBeacon.ranOut
  | .joinTimeout => s.pt.join.ranOut
  | .syncTimeout => s.ts.sync.ranOut
  | _ => true

/-- The command takes an event that the counting events before it have brought about, or it is the supply's: nothing that is due
comes before it. Before any other command what is due comes first (R9; log entry 1). -/
def comesFirst (c : Instr) : Bool :=
  match c with
  | .powerOnReset => true
  | .lossOfSupply => true
  | .syncAnswerStep => true
  | .speedWindowEnd => true
  | .eyeBlockEdge => true
  | .eyeClearEdge => true
  | .estopFallingEdge => true
  | .estopRisingEdge => true
  | .pauseInputAsserted => true
  | .pauseInputDeasserted => true
  | .resumeKeyPress => true
  | .chemLowAsserted => true
  | .chemLowDeasserted => true
  | .freezeAsserted => true
  | .freezeDeasserted => true
  | .lanePresenceChange _ _ => true
  | .thermalSustainExpiry _ => true
  | .currentSample _ _ => true
  | .holdOffExpiry _ => true
  | .hotTimerExpiry _ => true
  | .idleTimerExpiry _ => true
  | .brushDrivePeriod _ => true
  | .runOnExpiry _ => true
  | .purgeIntervalExpiry => true
  | .purgeDurationExpiry => true
  | .stopWindowExpiry => true
  | .standbyExpiry => true
  | .saleTimeoutExpiry _ => true
  | .callTimeoutExpiry => true
  | .admissionGapExpiry => true
  | .beaconPeriodExpiry => true
  | .faultBeaconPeriod => true
  | .joinTimeout => true
  | .syncTimeout => true
  | _ => false

/-- The state in which a command's own effect begins: what is due has been taken, before a command that waits for it. -/
def State.before (s : State) (c : Instr) : State := if comesFirst c then s else s.deliverDue

/-! ### Frames as they reach a station -/

/-- A command of a console, for this station, that its HC takes (R100): from JOINING on, from a console's origin, which is no
station's, with target 0 or this station's number. -/
def Commands (s : State) (o : Origin) (target : Byte) : Prop :=
  s.active = true ∧ o ≠ s.ownOrigin ∧ s.expects o = false ∧ s.otherOrigin o .console = true ∧ s.isTarget target = true

/-- A frame of an expected station of a role, other than this one, from JOINING on. -/
def FromStation (s : State) (o : Origin) (r : Role) : Prop :=
  s.active = true ∧ o ≠ s.ownOrigin ∧ s.fromRole o r = true

/-- A frame of the kiosk of a lane that SU takes (R129): at the ENTRY, from JOINING on. -/
def FromKiosk (s : State) (o : Origin) (l : Lane) : Prop :=
  s.active = true ∧ s.role = .entry ∧ o ≠ s.ownOrigin ∧ s.expects o = false ∧ s.otherOrigin o (kioskOf l) = true

/-- The origin is none that the image configures (R168), nor this station's own. -/
def Unconfigured (s : State) (o : Origin) : Prop :=
  o ≠ s.ownOrigin ∧ s.expects o = false ∧ ∀ k : OtherKind, s.otherOrigin o k = false

/-- A command stands for a frame that the block owning its kind does not welcome from its origin, or in its fields: a COMMAND of
no console or for another target (R100), an ADMIT or LENGTH not of the ENTRY (R20, R21), a DEPART not of the EXIT (R26), a FLOW
at a station that is no ARCH or not of a station (R69), a REPORT not of an ARCH station at the ENTRY (R144), a HALT, RELEASE or
BEACON not of a station (R88, R187), a sync frame for another, of another or out of its time (R195, R197, R198), a sales frame
of no lane, not of its lane's kiosk or not at the ENTRY (R129), and an answer to a kiosk, which no station takes (R169). -/
def Unwelcome (s : State) (c : Instr) : Prop :=
  match c with
  | .resume o g => s.otherOrigin o .console = false ∨ s.isTarget g = false
  | .clearTrain o g => s.otherOrigin o .console = false ∨ s.isTarget g = false
  | .restart o g => s.otherOrigin o .console = false ∨ s.isTarget g = false
  | .pause o g => s.otherOrigin o .console = false ∨ s.isTarget g = false
  | .unpause o g => s.otherOrigin o .console = false ∨ s.isTarget g = false
  | .hold o g => s.otherOrigin o .console = false ∨ s.isTarget g = false
  | .unhold o g => s.otherOrigin o .console = false ∨ s.isTarget g = false
  | .purge o g => s.otherOrigin o .console = false ∨ s.isTarget g = false
  | .admitCar o _ _ _ _ _ => s.fromRole o .entry = false
  | .length o _ _ => s.fromRole o .entry = false
  | .depart o _ _ => s.fromRole o .exit = false
  | .flow o _ _ => s.role ≠ .arch ∨ s.expects o = false
  | .report o _ _ _ => s.role ≠ .entry ∨ s.fromRole o .arch = false
  | .halt o _ _ _ => s.expects o = false
  | .release o _ => s.expects o = false
  | .beacon o _ _ _ _ _ _ _ _ => s.expects o = false
  | .syncReq o k => s.keeper = false ∨ k.toNat ≠ s.cl.constants.station ∨ s.expects o = false
  | .syncCar o j _ _ _ _ _ => j.toNat ≠ s.cl.constants.station ∨
      (s.hc.runState ≠ .joining ∧ (s.hc.runState ≠ .syncing ∨ o.toNat ≠ s.ts.keeper))
  | .syncEnd o j _ => j.toNat ≠ s.cl.constants.station ∨
      (s.hc.runState ≠ .joining ∧ (s.hc.runState ≠ .syncing ∨ o.toNat ≠ s.ts.keeper))
  | .select o lane _ _ _ _ => ∀ l : Lane, lane = laneCode l → s.role ≠ .entry ∨ s.otherOrigin o (kioskOf l) = false
  | .tender o lane _ _ => ∀ l : Lane, lane = laneCode l → s.role ≠ .entry ∨ s.otherOrigin o (kioskOf l) = false
  | .cancel o lane _ => ∀ l : Lane, lane = laneCode l → s.role ≠ .entry ∨ s.otherOrigin o (kioskOf l) = false
  | .quote _ _ _ _ _ _ _ => True
  | .paid _ _ _ _ _ => True
  | .void _ _ _ _ _ => True
  | _ => False

/-- A peer record after a frame of its station has been heard (R189). -/
def Peer.hears (r : Peer) : Peer := { r with heard := true, age := 0 }

/-- The peer records with that of one station changed. -/
def peersWith (n : Nat) (f : Peer → Peer) (l : List Peer) : List Peer := l.map (fun r => if r.station = n then f r else r)

/-- A frame waits in the transmit queue. -/
def State.waitsFrame (s : State) (f : Frame) : Prop := ∃ q ∈ s.lp.waiting, q.frame = f

/-! ### What a command leaves alone -/

/-- Every block that no reader of a change writes is as it was: the inputs, PC, CL, PT, the reset line and the waiting
commands. -/
def SameOutside (s t : State) : Prop :=
  t.inReset = s.inReset ∧ t.inputs = s.inputs ∧ t.pc = s.pc ∧ t.cl = s.cl ∧ t.pt = s.pt ∧ t.pending = s.pending

/-- What a reader of a change never writes of SU: the catalogue, the open sales and their timeouts, the counters and the credit
table. -/
def SameSales (s t : State) : Prop :=
  t.su.catalogue = s.su.catalogue ∧ t.su.credits = s.su.credits ∧ t.su.lastSale = s.su.lastSale ∧
    t.su.lastTicket = s.su.lastTicket ∧
    ∀ l, (t.su.lane l).openSale = (s.su.lane l).openSale ∧ (t.su.lane l).timeout = (s.su.lane l).timeout ∧
      (t.su.lane l).pendingVoid = (s.su.lane l).pendingVoid

/-- A lane's open sale, its timeout, its pending answer and its queue are as they were, but for the calling of the head. -/
def SameLane (s t : State) (l : Lane) : Prop :=
  (t.su.lane l).openSale = (s.su.lane l).openSale ∧ (t.su.lane l).timeout = (s.su.lane l).timeout ∧
    (t.su.lane l).pendingVoid = (s.su.lane l).pendingVoid ∧
    (t.su.lane l).queue.map (fun x => { x with state := .paid }) = (s.su.lane l).queue.map (fun x => { x with state := .paid })

/-- The tunnel is known to be empty (R199): no car in the own train, and the latest beacon of the DRIVE and of the EXIT, where
they are other stations, showed a train count of 0. -/
def TunnelEmpty (s : State) : Prop :=
  s.ts.train = [] ∧ ∀ r ∈ s.pt.peers, r.role = .drive ∨ r.role = .exit → r.trainCount = some 0

/-- A car of the train before stands in it no longer. -/
def CarGone (s t : State) : Prop := ∃ x ∈ s.ts.train, t.holds x.ticket = false

/-- What the end of an action never writes of TS: the recent-departed list, the marks of the eye, the held flag, and both sides
of sync. -/
def SameEye (s t : State) : Prop :=
  t.ts.recent = s.ts.recent ∧ t.ts.blockMark = s.ts.blockMark ∧ t.ts.lastClear = s.ts.lastClear ∧ t.ts.held = s.ts.held ∧
    t.ts.sync = s.ts.sync ∧ t.ts.received = s.ts.received ∧ t.ts.keeper = s.ts.keeper ∧ t.ts.answers = s.ts.answers ∧
    t.ts.answerDue = s.ts.answerDue

end Sys2Proof.Machine
end

