-- ==== Sys2Proof/Certificates/Slice0/Obligations.lean ====
section
/-! DEFINITION. The statements about the machine. Each docstring names the rules of spec/ that the statement formalises. Before
a command that no counting event brings about, what is due is taken first (R9; log entry 1): such a command's own effect begins
in `s₀.deliverDue`, for any command in `s₀.before c`. -/

open Sys2Proof Sys2Proof.Machine

/-! ### The step and reset -/

/-- The part takes the command at the front of its queue and executes it with the rest of the queue; an empty queue leaves it
as it is. The queue is the model's own (log entry 3). -/
def Obligations.StepTakesFrontCommand : Prop :=
  (∀ (c : Instr) (rest : List Instr) (s : State), s.pending = c :: rest → step s = exec c (s.setPending rest)) ∧
    ∀ s : State, s.pending = [] → step s = .next s

/-- R200, with the values of the blocks' own chapters: collections empty, P and v 0, the last-pulse age 65,535 (R6), STARTUP
alone held (R85), the gate SHUT (R148), the eye held (R29), every counter IDLE, every output off. Every law that the
statements below say each step keeps holds at reset. The pins of the reset state stand inactive (log entry 2). -/
def Obligations.ResetValuesAndLaws : Prop :=
  (let s := State.reset
  s.hc.runState = .loading ∧ (∀ k : Cause, s.owns k = true ↔ k = .startup) ∧
    s.pc.p = 0 ∧ s.pc.v = 0 ∧ s.pc.windowCount = 0 ∧ s.pc.lastPulseAge = 65535 ∧
    s.ts.train = [] ∧ s.ts.recent = [] ∧ s.ts.phase = .clear ∧ s.ts.blockMark = none ∧ s.ts.lastClear = none ∧
    s.ts.held = true ∧ s.ts.syncFailed = false ∧ s.ts.answers = [] ∧
    s.ps.debt = 0 ∧ s.ps.request = false ∧ s.ps.purge = .none ∧ s.pt.peers = [] ∧ s.pt.others = [] ∧
    s.su.credits = [] ∧ s.su.lastSale = 0 ∧ s.su.lastTicket = 0 ∧
    (∀ l : Lane, (s.su.lane l).openSale = none ∧ (s.su.lane l).queue = [] ∧ (s.su.lane l).timeout = Pace.idle) ∧
    s.ac.gate = .shut ∧ s.ac.turn = .a ∧ s.ac.skipA = 0 ∧ s.ac.skipB = 0 ∧
    s.lp.inHand = none ∧ s.lp.waiting = [] ∧ s.lp.failures = 0 ∧
    (∀ pin : InputPin, (s.inputs.get pin).level = false ∧ (s.inputs.get pin).counter = Pace.idle) ∧
    s.ps.interval = Pace.idle ∧ s.ps.duration = Pace.idle ∧ s.hc.stop = Pace.idle ∧ s.hc.standby = Pace.idle ∧
    s.pt.beacon = Pace.idle ∧ s.pt.join = Pace.idle ∧ s.ts.sync = Pace.idle ∧ s.ac.callTimeout = Pace.idle ∧
    s.ac.gap = Pace.idle ∧ s.cl.faultBeacon = Pace.idle ∧ OutputsOff s) ∧
  (TrainLaw State.reset ∧ QueueLaw State.reset.lp ∧ SalesLaw State.reset.su ∧ ClaimLaw State.reset ∧ PurgeLaw State.reset ∧
    LevelLaw State.reset ∧ LimitLaw State.reset ∧ CallLaw State.reset ∧ ProgressLaw State.reset ∧ ReportLaw State.reset ∧
    HaltLaw State.reset ∧ ChannelLaw State.reset ∧ ¬ PurgeDue State.reset)

/-! ### Laws that every step keeps -/

/-- R18: a train never holds more than 24 cars or two cars with one ticket, and its fronts strictly decrease. A ticket
admitted while it is held is not stored again (the model's reading, log entry 17). -/
def Obligations.TrainLawKept : Prop :=
  ∀ s t : State, TrainLaw s → step s = .next t → TrainLaw t

/-- R172, R174, R175: the law of the transmit queue. -/
def Obligations.QueueLawKept : Prop :=
  ∀ s t : State, QueueLaw s.lp → step s = .next t → QueueLaw t.lp

/-- R130, R135, R140, R142: the law of the lane queues and the credit table. -/
def Obligations.SalesLawKept : Prop :=
  ∀ s t : State, SalesLaw s.su → step s = .next t → SalesLaw t.su

/-- R67: FB's claim and newest ticket are at every moment what the sprays and the train give. -/
def Obligations.ClaimLawKept : Prop :=
  ∀ s t : State, ClaimLaw s → step s = .next t → ClaimLaw t

/-- R74, R75: the purge debt lies between 0 and 4 and is 0 whenever FREEZE is deasserted. -/
def Obligations.PurgeLawKept : Prop :=
  ∀ s t : State, PurgeLaw s → step s = .next t → PurgeLaw t

/-- R56: every brush stands at the level that the speed, the intensities and its thermal override give. -/
def Obligations.LevelLawKept : Prop :=
  ∀ s t : State, LevelLaw s → step s = .next t → LevelLaw t

/-- R161, R151: the in-tunnel count never exceeds the limit in force, and stands below it while a lane is called; before JOINING
the gate is SHUT (R148). -/
def Obligations.LimitLawKept : Prop :=
  ∀ s t : State, LimitLaw s → step s = .next t → LimitLaw t

/-- R140, R154, R155: one sale is CALLED, the head of the lane the gate calls, and no call outlives its conditions. -/
def Obligations.CallLawKept : Prop :=
  ∀ s t : State, CallLaw s → step s = .next t → CallLaw t

/-- R52, R53, R79, R87, R96, R107: the law of the halts, the stop window and the standby counter. R54, R55, R62, R63, R64, R66,
R77: the law of the channel states, for a station that keeps the law of the halts. R76, R78: no purge stands due that has not
been started. -/
def Obligations.HaltAndChannelLawsKept : Prop :=
  (∀ s t : State, HaltLaw s → step s = .next t → HaltLaw t) ∧
    (∀ s t : State, HaltLaw s → ChannelLaw s → step s = .next t → ChannelLaw t) ∧
    ∀ s t : State, HaltLaw s → ChannelLaw s → ¬ PurgeDue s → step s = .next t → ¬ PurgeDue t

/-! ### Rules of the whole station -/

/-- R86 and the table of 5.1: which commands take a cause out of the own set. R98: RUNAWAY stays in it until power-on reset,
and while it is held every output is off and the safety chain is open. That a loss of supply empties the own set at once is the
model's choice (log entry 13). -/
def Obligations.CausesLeaveOnlyBy : Prop :=
  (∀ (c : Instr) (s t : State), s.owns .runaway = true → c ≠ .powerOnReset → c ≠ .lossOfSupply → exec c s = .next t →
    t.owns .runaway = true ∧ OutputsOff t) ∧
  ∀ (c : Instr) (s₀ t : State) (k : Cause), exec c s₀ = .next t → (s₀.before c).owns k = true → t.owns k = false →
    match c with
    | .powerOnReset => True
    | .lossOfSupply => True
    | .restart _ _ => k ≠ .runaway ∧ k ≠ .startup
    | .resume _ _ => k ∉ [.runaway, .mismatch, .opPause, .hot, .chemLow, .opHold]
    | .resumeKeyPress => k ∉ [.runaway, .mismatch, .opPause, .hot, .chemLow, .opHold]
    | .pauseInputDeasserted => k = .opPause
    | .unpause _ _ => k = .opPause
    | .unhold _ _ => k = .opHold
    | .chemLowDeasserted => k = .chemLow
    | .thermalSustainExpiry _ => k = .hot
    | _ => False

/-- The table of 5.1: which commands bring a cause into the own set. STALL is left out: a brush that engages with a hold-off
of 0 is judged at once (R61), whatever opened its window. -/
def Obligations.CausesJoinOnlyBy : Prop :=
  ∀ (c : Instr) (s₀ t : State) (k : Cause), exec c s₀ = .next t → (s₀.before c).owns k = false → t.owns k = true →
    match k with
    | .estop => c = .estopFallingEdge ∨ ∃ m, c = .loadingEnd m
    | .runaway => c = .stopWindowExpiry
    | .closing => c ∈ [.encPulse, .eyeBlockEdge, .eyeClearEdge] ∨ (∃ o a b d e f, c = .admitCar o a b d e f) ∨
        ∃ o a b d e f g, c = .syncCar o a b d e f g
    | .unexpected => c ∈ [.encPulse, .eyeBlockEdge]
    | .missing => c ∈ [.encPulse, .eyeBlockEdge] ∨ (∃ o a b d e f, c = .admitCar o a b d e f) ∨
        ∃ o a b d e f g, c = .syncCar o a b d e f g
    | .stall => True
    | .overflow => c = .eyeBlockEdge ∨ (∃ o a b d e f, c = .admitCar o a b d e f) ∨ ∃ o a b d e f g, c = .syncCar o a b d e f g
    | .silent => c ∈ [.tick, .joinTimeout, .syncTimeout] ∨ ∃ o j n, c = .syncEnd o j n
    | .skew => ∃ o r x n p q w d i, c = .beacon o r x n p q w d i
    | .lineLost => c ∈ [.attemptFailed, .dominantLineStretch]
    | .mismatch => c = .ownOriginFrame ∨ (∃ m, c = .loadingEnd m) ∨ c.origin = some (s₀.before c).ownOrigin ∨
        ∃ o r x n p q w d i, c = .beacon o r x n p q w d i
    | .startup => c = .powerOnReset ∨ ∃ o g, c = .restart o g
    | .long => c = .eyeClearEdge
    | .opPause => c = .pauseInputAsserted ∨ (∃ o g, c = .pause o g) ∨ ∃ m, c = .loadingEnd m
    | .hot => ∃ i, c = .hotTimerExpiry i
    | .chemLow => c = .chemLowAsserted ∨ ∃ m, c = .loadingEnd m
    | .opHold => ∃ o g, c = .hold o g

/-- R106, with R87, R193, R198, R108 and R109: the run state moves along these ways only. That a loss of supply puts the
station at reset at once is the model's choice (log entry 13). So is the way from JOINING to READY by one SYNC_END: a frame is
heard, and may end JOINING, before its owner takes it (log entry 10), so the SYNC_END that ends JOINING finds the station
SYNCING and ends its sync too (log entry 31). -/
def Obligations.RunStateMoves : Prop :=
  ∀ (c : Instr) (s₀ t : State), exec c s₀ = .next t → t.hc.runState ≠ (s₀.before c).hc.runState →
    match (s₀.before c).hc.runState, t.hc.runState with
    | _, .loading => c = .powerOnReset ∨ c = .lossOfSupply ∨ ∃ o g, c = .restart o g
    | .loading, .joining => ∃ m, c = .loadingEnd m
    | .loading, .configFault => ∃ m, c = .loadingEnd m
    | .joining, .syncing => c.origin.isSome = true ∨ c = .joinTimeout
    | .joining, .ready => ∃ o j n, c = .syncEnd o j n
    | .syncing, .ready => c = .syncTimeout ∨ ∃ o j n, c = .syncEnd o j n
    | .ready, .run => c = .resumeKeyPress ∨ ∃ o g, c = .resume o g
    | .run, .standby => c = .standbyExpiry
    | .standby, .run => c ∈ [.resumeKeyPress, .eyeBlockEdge] ∨ (∃ o g, c = .resume o g) ∨ (∃ l x, c = .lanePresenceChange l x) ∨
        (∃ o a b d e f, c = .admitCar o a b d e f) ∨ (∃ o r x n p q w d i, c = .beacon o r x n p q w d i) ∨
        (∃ o l p a g k, c = .select o l p a g k) ∨ ∃ o l n a, c = .tender o l n a
    | _, _ => False

/-- R89: the view is the union of the own set and every peer set; its grade is that of its highest-graded cause; its current
cause is its member of lowest rank, whose rank every HALT the station sends carries, 0 for an empty view; and a beacon carries
the own set alone. -/
def Obligations.ViewIsUnion : Prop :=
  ∀ s : State,
    (∀ k : Cause, hasCause s.view k = true ↔ s.owns k = true ∨ ∃ r ∈ s.pt.peers, hasCause r.causes k = true) ∧
      (s.grade = some .halt ↔ ∃ k : Cause, k.grade = .halt ∧ hasCause s.view k = true) ∧
      (s.grade = some .pause ↔
        (∃ k : Cause, k.grade = .pause ∧ hasCause s.view k = true) ∧ ∀ k : Cause, hasCause s.view k = true → k.grade ≠ .halt) ∧
      (s.grade = some .hold ↔
        (∃ k : Cause, hasCause s.view k = true) ∧ ∀ k : Cause, hasCause s.view k = true → k.grade = .hold) ∧
      (s.grade = none ↔ ∀ k : Cause, hasCause s.view k = false) ∧
      (∀ k : Cause, hasCause s.view k = true → currentRank s.view ≤ k.rank) ∧
      (∀ k : Cause, hasCause s.view k = true → ∃ k₁ : Cause, hasCause s.view k₁ = true ∧ k₁.rank = currentRank s.view) ∧
      ((∀ k : Cause, hasCause s.view k = false) → currentRank s.view = 0) ∧
      (∀ k : Cause, s.haltFrame k = .halt (byte k.rank) k.grade.code (byte (currentRank s.view))) ∧
      ∃ x n y, s.liveBeacon =
        .beacon x (s.hc.own.setWidth 24) n s.pc.p (byte s.fb.claim) s.fb.newest s.cl.constants.digest y

/-- R208 and the rules its table names. R91, R99: the conveyor run output is on at the DRIVE exactly while it is in RUN, RUNAWAY
is not held and no cause of grade H or P stands in any set of its view; and the safety chain is closed exactly from JOINING on,
out of CONFIG_FAULT, without RUNAWAY. R149: the lamp of a lane is lit exactly while the gate calls the lane. With the chain open
every output of a channel is off, and so is one with no channel. Else R52 and the tables of 3.5 to 3.7: a brush arm is OUT while
ENGAGED, HOLD while SUSPENDED under a view of grade P, HOME else; R57: its motor runs in the first N milliseconds of a period; a
spray is on while OPEN or PURGING (R62), a dryer while RUNNING or in RUN-ON (R64). Both arm lines are off for HOME and never on
together. Between the eighth tick of a period and the command that begins the next the brush's drive stands as in the eighth
millisecond: the model's choice (log entry 21). -/
def Obligations.OutputsFollowState : Prop :=
  ∀ s : State,
    (s.runOutput = true ↔ s.role = .drive ∧ s.inReset = false ∧ s.hc.runState = .run ∧
      ∀ k : Cause, k.grade ≠ .hold → s.owns k = false ∧ ∀ r ∈ s.pt.peers, hasCause r.causes k = false) ∧
    (s.safeOutput = true ↔ s.inReset = false ∧ s.hc.runState ≠ .loading ∧ s.hc.runState ≠ .configFault ∧
      s.owns .runaway = false) ∧
    (∀ l : Lane, s.lampOutput l = true ↔ s.safeOutput = true ∧ s.role = .entry ∧ s.ac.gate = .calling l) ∧
    ∀ k : ChannelNo,
      (s.safeOutput = false ∨ s.ss[k.val]? = none →
        s.driveOutput k = false ∧ s.armOutLine k = false ∧ s.armHoldLine k = false) ∧
      ∀ ch, s.ss[k.val]? = some ch → s.safeOutput = true →
        (ch.cfg.kind = .brush → s.driveOutput k = decide (min ch.drivePhase 7 < ch.onTime) ∧
          s.armOutLine k = decide (ch.state = .engaged) ∧
          (s.armHoldLine k = true ↔ ch.state = .suspended ∧ (∃ c : Cause, c.grade = .pause ∧ hasCause s.view c = true) ∧
            ∀ c : Cause, hasCause s.view c = true → c.grade ≠ .halt)) ∧
        (ch.cfg.kind = .spray → s.driveOutput k = decide (ch.state = .opened ∨ ch.state = .purging)) ∧
        (ch.cfg.kind = .dryer → s.driveOutput k = decide (ch.state = .running ∨ ch.state = .runOn)) ∧
        (ch.cfg.kind ≠ .brush → s.armOutLine k = false ∧ s.armHoldLine k = false)

/-- R48 with R46, R50 and R63: once a car's progress at a channel is final it keeps its value for as long as the car is held,
and a reported flag once set stays set. R42, R46, R47: every step keeps the law of the progress lists, one entry for each
channel, and no channel at a station that is no ARCH. R48, R50: no step leaves a car served and unreported; and where an action
sets a car's reported flag, the REPORT of its GIVEN and MISSED codes waits, where the queue holds no more than 12 frames after it
(R176). -/
def Obligations.FinalProgressStays : Prop :=
  (∀ s t : State, ProgressLaw s → step s = .next t → ProgressLaw t) ∧
  (∀ s t : State, TrainLaw s → ProgressLaw s → ReportLaw s → step s = .next t → ReportLaw t) ∧
  (∀ (c : Instr) (s₀ t : State), TrainLaw (s₀.before c) → ProgressLaw (s₀.before c) → exec c s₀ = .next t →
    ∀ y ∈ t.ts.train, y.reported = true → (∀ x ∈ (s₀.before c).ts.train, x.ticket = y.ticket → x.reported = false) →
      t.lp.size ≤ 12 → ∃ given missed, ReportSets t y given missed ∧ t.waitsFrame (.report y.ticket given missed)) ∧
  ∀ (c : Instr) (s₀ t : State), TrainLaw (s₀.before c) → exec c s₀ = .next t →
    ∀ x ∈ (s₀.before c).ts.train, ∀ y ∈ t.ts.train, x.ticket = y.ticket →
      (∀ i, (x.progressAt i).final = true → y.progressAt i = x.progressAt i) ∧ (x.reported = true → y.reported = true)

/-- R70: an action that raises the station's claim leaves the total of its view of claims within the budget, a forced purge
apart. R68, R174: after an action that changes the claim or the newest ticket the one FLOW that waits carries both as they stand,
where the queue holds no more than 12 frames (R176). The order of the readers within one action is the model's (log entry 9). -/
def Obligations.ClaimRisesWithinBudget : Prop :=
  (∀ (c : Instr) (s₀ t : State), ClaimLaw (s₀.before c) → exec c s₀ = .next t → (s₀.before c).fb.claim < t.fb.claim →
    t.ps.purge ≠ .forced → t.totalClaim ≤ t.cl.constants.budget) ∧
  ∀ (c : Instr) (s₀ t : State), exec c s₀ = .next t →
    let s := s₀.before c
    ClaimLaw s → QueueLaw s.lp → s.active = true → t.active = true → s.role = .arch → t.fb ≠ s.fb → t.lp.size ≤ 12 →
      ∀ f : Frame, f.kind = 7 → (t.waitsFrame f ↔ f = .flow (byte t.fb.claim) t.fb.newest)

/-- R151, R152: a call that an action begins finds every condition of the call test at the end of that action, the gate SHUT
when the test is made: it was SHUT before the action, or the action itself shut it, by the end of the admission gap or by the
timeout of the other lane's call. Of two candidate lanes the call goes to the one whose turn it is unless the other's skip
counter has reached K. R148, R149, R155, R156, R159, R160, R162, R163: the gate moves along these ways only, and a call ends
without an admission at its timeout, at a reset, or where the view has a cause or the station has left RUN. The call test stands
last among the readers of an action, the model's order (log entry 9). -/
def Obligations.GateMovesAndCalls : Prop :=
  (∀ (c : Instr) (s₀ t : State) (l : Lane), exec c s₀ = .next t → t.ac.gate = .calling l →
    let s := s₀.before c
    s.ac.gate ≠ .calling l →
      (s.ac.gate = .shut ∨ (s.ac.gate = .spacing ∧ c = .admissionGapExpiry) ∨
        (s.ac.gate = .calling (otherLane l) ∧ c = .callTimeoutExpiry)) ∧
      t.role = .entry ∧ t.hc.runState = .run ∧ t.grade = none ∧ t.roleRuns .drive = true ∧ t.inTunnel < t.ac.limit ∧
        t.inputs.eye.level = false ∧ t.presence l = true ∧ (∃ x, t.head l = some x ∧ x.state = .called) ∧
        (t.candidate (otherLane l) = true →
          if l = t.ac.turn then t.ac.skip (otherLane l) < t.cl.constants.fairness else t.cl.constants.fairness ≤ t.ac.skip l)) ∧
  ∀ (c : Instr) (s₀ t : State), exec c s₀ = .next t →
    let s := s₀.before c
    let resets := c = .powerOnReset ∨ c = .lossOfSupply ∨ ∃ o g, c = .restart o g
    t.ac.gate ≠ s.ac.gate →
      match s.ac.gate, t.ac.gate with
      | .shut, .calling _ => True
      | .calling _, .calling _ => c = .callTimeoutExpiry
      | .calling l, .entering r => c = .eyeBlockEdge ∧ r.lane = l ∧ r.entryMark = s.pc.p
      | .calling _, .shut => resets ∨ c = .callTimeoutExpiry ∨ t.grade ≠ none ∨ t.hc.runState ≠ .run
      | .entering _, .spacing => c = .eyeClearEdge
      | .entering _, .shut => resets ∨ ∃ o g, c = .clearTrain o g
      | .spacing, .shut => resets ∨ c = .admissionGapExpiry ∨ ∃ o g, c = .clearTrain o g
      | .spacing, .calling _ => c = .admissionGapExpiry
      | _, _ => False

/-- R52, R53, R66, R79, R95, R96: the action in which the view gains its first cause of grade H or P loads the stop window, ends
a purge and leaves every channel SUSPENDED and stopped; the one in which it loses the last abandons the window and every channel
takes up its state afresh: a brush ENGAGED with a window open, else READY, in STANDBY PARKED; a spray CLOSED with none, else OPEN
within the budget or DEFERRED above it, whatever the order of the sprays' tests (log entry 38); a dryer RUNNING or OFF. R107: the
standby counter is loaded when the station becomes idle and cancelled when it ceases to be. No other action touches the two
counters but a tick, which counts them, and their expiries. -/
def Obligations.HaltsAndStandby : Prop :=
  ∀ (c : Instr) (s₀ t : State), exec c s₀ = .next t →
    let s := s₀.before c
    s.active = true → t.active = true →
      (s.halted = false → t.halted = true → t.hc.stop = Pace.load s.cl.constants.stopWindow ∧ t.ps.purge = .none ∧
        ∀ ch ∈ t.ss, ch.stopped) ∧
      (s.halted = true → t.halted = false → t.hc.stop = Pace.idle) ∧
      (s.halted = true → t.halted = false → HaltLaw s → ClaimLaw s → ∀ (i : Nat) (ch : Channel), t.ss[i]? = some ch →
        (ch.cfg.kind = .brush →
          ch.state = (if windowOpen i t.ts.train = true then .engaged else if t.hc.runState = .standby then .parked
            else .ready) ∧
          (ch.state ≠ .parked → ch.idle = Pace.load ch.cfg.idleTime) ∧
          (ch.state = .engaged → ch.holdOff = if ch.cfg.holdOff = 0 then Pace.idle else Pace.load ch.cfg.holdOff)) ∧
        (ch.cfg.kind = .spray → t.ps.purge = .none →
          (windowOpen i t.ts.train = false → ch.state = .closed) ∧
          (windowOpen i t.ts.train = true →
            (ch.state = .opened ∧ t.totalClaim ≤ t.cl.constants.budget) ∨
              (ch.state = .deferred ∧ t.cl.constants.budget < t.totalClaim + ch.cfg.demand))) ∧
        (ch.cfg.kind = .dryer → ch.state = if ch.pulsePartOpen i t.ts.train = true then .running else .off)) ∧
      (t.halted = s.halted → c ≠ .stopWindowExpiry → t.hc.stop = if c = .tick then s.hc.stop.count else s.hc.stop) ∧
      (¬ StationIdle s → StationIdle t → t.hc.standby = Pace.load s.cl.constants.standbyTime) ∧
      (StationIdle s → ¬ StationIdle t → t.hc.standby = Pace.idle) ∧
      ((StationIdle t ↔ StationIdle s) → c ≠ .standbyExpiry →
        t.hc.standby = if c = .tick then s.hc.standby.count else s.hc.standby)

/-! ### What commands leave alone -/

/-- R207: an input is changed only by its own commands, by a tick, by the supply, and the eye also by RESTART (R206) and
CLEAR_TRAIN (R28). No command touches the waiting commands, and only the supply moves the reset line (R200). R1, R4, R6 and
the table of 1.3: PC is written by pulses, ticks, window ends and resets alone. That a tick takes the release of the resume
key is the model's choice (log entry 14), and so are the queue of commands (log entry 3) and what loss of supply does (log
entry 13). -/
def Obligations.InputsAndPulseFrame : Prop :=
  (∀ (c : Instr) (s₀ t : State), exec c s₀ = .next t →
    let s := s₀.before c
    match c with
    | .powerOnReset => ∀ q : InputPin, (t.inputs.get q).pin = (s.inputs.get q).pin
    | .lossOfSupply => ∀ q : InputPin, (t.inputs.get q).pin = (s.inputs.get q).pin
    | .tick => (∀ q : InputPin, (t.inputs.get q).pin = (s.inputs.get q).pin ∧
        (q ≠ .resumeKey → (t.inputs.get q).level = (s.inputs.get q).level)) ∧ t.inputs.overTemp = s.inputs.overTemp
    | .restart _ _ => (∀ q : InputPin, q ≠ .eye → t.inputs.get q = s.inputs.get q) ∧ t.inputs.overTemp = s.inputs.overTemp
    | .clearTrain _ _ => (∀ q : InputPin, q ≠ .eye → t.inputs.get q = s.inputs.get q) ∧ t.inputs.overTemp = s.inputs.overTemp
    | .pinLevelChange p _ => (∀ q : InputPin, q ≠ p → t.inputs.get q = s.inputs.get q) ∧ t.inputs.overTemp = s.inputs.overTemp
    | .eyeBlockEdge => (∀ q : InputPin, q ≠ .eye → t.inputs.get q = s.inputs.get q) ∧ t.inputs.overTemp = s.inputs.overTemp
    | .eyeClearEdge => (∀ q : InputPin, q ≠ .eye → t.inputs.get q = s.inputs.get q) ∧ t.inputs.overTemp = s.inputs.overTemp
    | .estopFallingEdge => (∀ q : InputPin, q ≠ .estop → t.inputs.get q = s.inputs.get q) ∧ t.inputs.overTemp = s.inputs.overTemp
    | .estopRisingEdge => (∀ q : InputPin, q ≠ .estop → t.inputs.get q = s.inputs.get q) ∧ t.inputs.overTemp = s.inputs.overTemp
    | .pauseInputAsserted => (∀ q : InputPin, q ≠ .pause → t.inputs.get q = s.inputs.get q) ∧ t.inputs.overTemp = s.inputs.overTemp
    | .pauseInputDeasserted =>
      (∀ q : InputPin, q ≠ .pause → t.inputs.get q = s.inputs.get q) ∧ t.inputs.overTemp = s.inputs.overTemp
    | .resumeKeyPress => (∀ q : InputPin, q ≠ .resumeKey → t.inputs.get q = s.inputs.get q) ∧ t.inputs.overTemp = s.inputs.overTemp
    | .chemLowAsserted => (∀ q : InputPin, q ≠ .chemLow → t.inputs.get q = s.inputs.get q) ∧ t.inputs.overTemp = s.inputs.overTemp
    | .chemLowDeasserted => (∀ q : InputPin, q ≠ .chemLow → t.inputs.get q = s.inputs.get q) ∧ t.inputs.overTemp = s.inputs.overTemp
    | .freezeAsserted => (∀ q : InputPin, q ≠ .freeze → t.inputs.get q = s.inputs.get q) ∧ t.inputs.overTemp = s.inputs.overTemp
    | .freezeDeasserted => (∀ q : InputPin, q ≠ .freeze → t.inputs.get q = s.inputs.get q) ∧ t.inputs.overTemp = s.inputs.overTemp
    | .lanePresenceChange l _ =>
      (∀ q : InputPin, q ≠ presencePin l → t.inputs.get q = s.inputs.get q) ∧ t.inputs.overTemp = s.inputs.overTemp
    | .overTempChange ch _ => (∀ q : InputPin, t.inputs.get q = s.inputs.get q) ∧
        ∀ k : ChannelNo, k ≠ ch → t.inputs.overTemp.get k = s.inputs.overTemp.get k
    | _ => t.inputs = s.inputs) ∧
  (∀ (c : Instr) (s t : State), exec c s = .next t →
    t.pending = s.pending ∧ (c ≠ .powerOnReset → c ≠ .lossOfSupply → t.inReset = s.inReset)) ∧
  ∀ (c : Instr) (s₀ t : State), exec c s₀ = .next t →
    let s := s₀.before c
    match c with
    | .powerOnReset => t.pc = PulseCounter.reset
    | .lossOfSupply => t.pc = PulseCounter.reset
    | .restart _ _ => t.pc = s.pc ∨ t.pc = PulseCounter.reset
    | .encPulse => t.pc.windowTicks = s.pc.windowTicks
    | .tick => t.pc.p = s.pc.p ∧ t.pc.v = s.pc.v ∧ t.pc.windowCount = s.pc.windowCount
    | .speedWindowEnd => t.pc.p = s.pc.p ∧ t.pc.lastPulseAge = s.pc.lastPulseAge
    | _ => t.pc = s.pc

/-- R204: what the image gave stands from the end of LOADING to the next reset or RESTART: the constants, the catalogue, the
stations and origins, and the records of the channels. R183 to R192: a peer record is written by its own station's frames, by
a tick, by a re-basing and by resets alone. -/
def Obligations.ConfigurationAndPeerFrame : Prop :=
  (∀ (c : Instr) (s₀ t : State), exec c s₀ = .next t →
    let s := s₀.before c
    match c with
    | .powerOnReset => True
    | .lossOfSupply => True
    | .restart _ _ => True
    | .loadingEnd _ => True
    | _ => t.cl.constants = s.cl.constants ∧ t.cl.faultOrigin = s.cl.faultOrigin ∧ t.cl.faultRole = s.cl.faultRole ∧
        t.su.catalogue = s.su.catalogue ∧ t.pt.others = s.pt.others ∧
        t.pt.peers.map (fun r => (r.station, r.role)) = s.pt.peers.map (fun r => (r.station, r.role)) ∧
        t.ss.map (fun ch => ch.cfg) = s.ss.map (fun ch => ch.cfg)) ∧
  ∀ (c : Instr) (s₀ t : State), exec c s₀ = .next t →
    let s := s₀.before c
    match c with
    | .powerOnReset => True
    | .lossOfSupply => True
    | .restart _ _ => True
    | .loadingEnd _ => True
    | .tick => t.pt.peers.map (fun r => { r with age := 0 }) = s.pt.peers.map (fun r => { r with age := 0 })
    | .resume o _ => (t.pt.peers.filter (fun r => r.station ≠ o.toNat)).map (fun r => { r with offset := none }) =
        (s.pt.peers.filter (fun r => r.station ≠ o.toNat)).map (fun r => { r with offset := none })
    | .resumeKeyPress => t.pt.peers.map (fun r => { r with offset := none }) = s.pt.peers.map (fun r => { r with offset := none })
    | .clearTrain o _ => (t.pt.peers.filter (fun r => r.station ≠ o.toNat)).map (fun r => { r with offset := none }) =
        (s.pt.peers.filter (fun r => r.station ≠ o.toNat)).map (fun r => { r with offset := none })
    | c => match c.origin with
      | some o => t.pt.peers.filter (fun r => r.station ≠ o.toNat) = s.pt.peers.filter (fun r => r.station ≠ o.toNat)
      | none => t.pt.peers = s.pt.peers

/-- R128 to R147: SU's sales, counters and credits are written by the commands of chapter 7 alone; of any other command the
most that reaches a lane queue is the calling of its head (R154) or its return to PAID (R155). A SELECT, TENDER, CANCEL or sale
timeout of one lane leaves the other's open sale, timeout and queue as they were, and so do an admission and a call timeout the
lanes that the gate does not call. -/
def Obligations.SalesFrame : Prop :=
  ∀ (c : Instr) (s₀ t : State), exec c s₀ = .next t →
    let s := s₀.before c
    match c with
    | .powerOnReset => True
    | .lossOfSupply => True
    | .restart _ _ => True
    | .loadingEnd _ => t.su.credits = s.su.credits ∧ t.su.lastSale = s.su.lastSale ∧ t.su.lastTicket = s.su.lastTicket ∧
        ∀ l : Lane, (t.su.lane l).openSale = (s.su.lane l).openSale ∧ (t.su.lane l).timeout = (s.su.lane l).timeout ∧
          (t.su.lane l).queue.map (fun x => { x with state := .paid }) =
            (s.su.lane l).queue.map (fun x => { x with state := .paid })
    | .tick => t.su.catalogue = s.su.catalogue ∧ t.su.credits = s.su.credits ∧ t.su.lastSale = s.su.lastSale ∧
        t.su.lastTicket = s.su.lastTicket ∧
        ∀ l : Lane, (t.su.lane l).openSale = (s.su.lane l).openSale ∧ (t.su.lane l).pendingVoid = (s.su.lane l).pendingVoid ∧
          (t.su.lane l).queue.map (fun x => { x with state := .paid }) =
            (s.su.lane l).queue.map (fun x => { x with state := .paid })
    | .select _ lane _ _ _ _ => ∀ l : Lane, (t.su.lane l).pendingVoid = (s.su.lane l).pendingVoid ∧
        (lane ≠ laneCode l → SameLane s t l)
    | .tender _ lane _ _ => t.su.lastSale = s.su.lastSale ∧ ∀ l : Lane,
        (t.su.lane l).pendingVoid = (s.su.lane l).pendingVoid ∧ (lane ≠ laneCode l → SameLane s t l)
    | .cancel _ lane _ => t.su.lastSale = s.su.lastSale ∧ t.su.lastTicket = s.su.lastTicket ∧ ∀ l : Lane,
        (t.su.lane l).pendingVoid = (s.su.lane l).pendingVoid ∧ (lane ≠ laneCode l → SameLane s t l)
    | .saleTimeoutExpiry m => t.su.lastSale = s.su.lastSale ∧ t.su.lastTicket = s.su.lastTicket ∧ ∀ l : Lane,
        (t.su.lane l).pendingVoid = (s.su.lane l).pendingVoid ∧ (l ≠ m → SameLane s t l)
    | .callTimeoutExpiry => t.su.lastSale = s.su.lastSale ∧ t.su.lastTicket = s.su.lastTicket ∧ ∀ l : Lane,
        (t.su.lane l).openSale = (s.su.lane l).openSale ∧ (t.su.lane l).timeout = (s.su.lane l).timeout ∧
          (t.su.lane l).pendingVoid = (s.su.lane l).pendingVoid ∧ (s.ac.gate ≠ .calling l → SameLane s t l)
    | .eyeBlockEdge => t.su.lastSale = s.su.lastSale ∧ t.su.lastTicket = s.su.lastTicket ∧ ∀ l : Lane,
        (t.su.lane l).openSale = (s.su.lane l).openSale ∧ (t.su.lane l).timeout = (s.su.lane l).timeout ∧
          (t.su.lane l).pendingVoid = (s.su.lane l).pendingVoid ∧ (s.ac.gate ≠ .calling l → SameLane s t l)
    | .depart _ _ _ => t.su.lastSale = s.su.lastSale ∧ t.su.lastTicket = s.su.lastTicket ∧ ∀ l : Lane, SameLane s t l
    | .report _ _ _ _ => t.su.lastSale = s.su.lastSale ∧ t.su.lastTicket = s.su.lastTicket ∧ ∀ l : Lane, SameLane s t l
    | .clearTrain _ _ => t.su.lastSale = s.su.lastSale ∧ t.su.lastTicket = s.su.lastTicket ∧ ∀ l : Lane, SameLane s t l
    | _ => SameSales s t ∧
        ∀ l : Lane, (t.su.lane l).queue.map (fun x => { x with state := .paid }) =
          (s.su.lane l).queue.map (fun x => { x with state := .paid })

/-- R18 to R28: cars join a train by ADMIT, SYNC_CAR and admission alone; and while a car is held, its ticket, services,
intensity and synced flag stand, its mark is written by a pulse or an eye edge alone, and its length is filled in by LENGTH
or the end of an entry alone. -/
def Obligations.TrainFrame : Prop :=
  ∀ (c : Instr) (s₀ t : State), exec c s₀ = .next t →
    let s := s₀.before c
    match c with
    | .admitCar _ k _ _ _ _ => ((t.ts.train.map Car.core).filter (fun x => x.1 ≠ k)).Sublist (s.ts.train.map Car.core)
    | .syncCar _ _ k _ _ _ _ => ((t.ts.train.map Car.core).filter (fun x => x.1 ≠ k)).Sublist (s.ts.train.map Car.core)
    | .eyeBlockEdge =>
      s.role ≠ .entry → (t.ts.train.map (fun x => (x.ticket, x.length, x.services, x.intensity, x.synced))).Sublist
        (s.ts.train.map (fun x => (x.ticket, x.length, x.services, x.intensity, x.synced)))
    | .encPulse => (t.ts.train.map (fun x => (x.ticket, x.length, x.services, x.intensity, x.synced))).Sublist
        (s.ts.train.map (fun x => (x.ticket, x.length, x.services, x.intensity, x.synced)))
    | .length _ _ _ => (t.ts.train.map (fun x => (x.ticket, x.mark, x.services, x.intensity, x.synced))).Sublist
        (s.ts.train.map (fun x => (x.ticket, x.mark, x.services, x.intensity, x.synced)))
    | .eyeClearEdge => (t.ts.train.map (fun x => (x.ticket, x.mark, x.services, x.intensity, x.synced))).Sublist
        (s.ts.train.map (fun x => (x.ticket, x.mark, x.services, x.intensity, x.synced)))
    | _ => (t.ts.train.map Car.core).Sublist (s.ts.train.map Car.core)

/-- R26, R29, R30, R195: the recent-departed list, the marks of the eye, the held flag and the answer list are written by their
own commands alone. R198, R199: the sync-failed flag is set at the end of a sync alone, and cleared, resets and CLEAR_TRAIN
apart, only where the tunnel is found empty, at a beacon of a keeper or at a removal; at each removal it is cleared so. -/
def Obligations.EyeAndSyncFrame : Prop :=
  (∀ (c : Instr) (s₀ t : State), exec c s₀ = .next t →
    let s := s₀.before c
    c ≠ .powerOnReset → c ≠ .lossOfSupply → (∀ o g, c ≠ .restart o g ∧ c ≠ .clearTrain o g) →
      (s.ts.syncFailed = false → t.ts.syncFailed = true → c = .syncTimeout ∨ ∃ o j n, c = .syncEnd o j n) ∧
      (s.ts.syncFailed = true → t.ts.syncFailed = false → TunnelEmpty t ∧
        (CarGone s t ∨ ∃ o r x n p q w d i, c = .beacon o r x n p q w d i ∧
          (s.fromRole o .drive = true ∨ s.fromRole o .exit = true))) ∧
      (s.ts.syncFailed = true → CarGone s t → (t.ts.syncFailed = false ↔ TunnelEmpty t))) ∧
  ∀ (c : Instr) (s₀ t : State), exec c s₀ = .next t →
    let s := s₀.before c
    match c with
    | .powerOnReset => True
    | .lossOfSupply => True
    | .restart _ _ => True
    | .clearTrain _ _ => t.ts.recent = s.ts.recent ∧ t.ts.held = s.ts.held ∧ t.ts.answers = s.ts.answers
    | .encPulse => t.ts.answers = s.ts.answers ∧ t.ts.sync = s.ts.sync ∧ (s.ts.held = false → t.ts.held = false) ∧
        (s.role ≠ .exit → t.ts.recent = s.ts.recent)
    | .eyeBlockEdge => t.ts.recent = s.ts.recent ∧ t.ts.lastClear = s.ts.lastClear ∧ t.ts.held = s.ts.held ∧
        t.ts.answers = s.ts.answers
    | .eyeClearEdge => t.ts.held = s.ts.held ∧ t.ts.answers = s.ts.answers ∧ (s.role ≠ .exit → t.ts.recent = s.ts.recent)
    | .depart _ _ _ => t.ts.blockMark = s.ts.blockMark ∧ t.ts.lastClear = s.ts.lastClear ∧ t.ts.held = s.ts.held ∧
        t.ts.answers = s.ts.answers
    | .resume _ _ => t.ts.blockMark = s.ts.blockMark ∧ t.ts.lastClear = s.ts.lastClear ∧ t.ts.held = s.ts.held ∧
        t.ts.answers = s.ts.answers
    | .resumeKeyPress => t.ts.blockMark = s.ts.blockMark ∧ t.ts.lastClear = s.ts.lastClear ∧ t.ts.held = s.ts.held ∧
        t.ts.answers = s.ts.answers
    | .syncCar _ _ _ _ _ _ _ => t.ts.blockMark = s.ts.blockMark ∧ t.ts.lastClear = s.ts.lastClear ∧ t.ts.held = s.ts.held ∧
        t.ts.answers = s.ts.answers
    | .syncReq _ _ => t.ts.recent = s.ts.recent ∧ t.ts.blockMark = s.ts.blockMark ∧ t.ts.lastClear = s.ts.lastClear ∧
        t.ts.held = s.ts.held
    | .syncAnswerStep => t.ts.recent = s.ts.recent ∧ t.ts.blockMark = s.ts.blockMark ∧ t.ts.lastClear = s.ts.lastClear ∧
        t.ts.held = s.ts.held
    | _ => t.ts.recent = s.ts.recent ∧ t.ts.blockMark = s.ts.blockMark ∧ t.ts.lastClear = s.ts.lastClear ∧
        t.ts.held = s.ts.held ∧ t.ts.answers = s.ts.answers

/-- R75, R77, R80, R82: the purge debt, the request flag and the interval counter are written by their own commands alone; a
tick counts the interval, whose expiry is taken in a step of its own (log entry 1).
R153, R160, R172, R179: the turn of the gate, its admission gap, the frame in hand and the failure count are written by their
own commands alone. -/
def Obligations.PurgeGateAndPortFrame : Prop :=
  (∀ (c : Instr) (s₀ t : State), exec c s₀ = .next t →
    let s := s₀.before c
    match c with
    | .powerOnReset => True
    | .lossOfSupply => True
    | .restart _ _ => True
    | .loadingEnd _ => t.ps.debt = s.ps.debt ∧ t.ps.request = s.ps.request
    | .tick => t.ps.debt = s.ps.debt ∧ t.ps.request = s.ps.request ∧
        (s.inReset = false → t.ps.interval = s.ps.interval.count) ∧ (s.inReset = true → t.ps.interval = s.ps.interval)
    | .freezeAsserted => t.ps.debt = s.ps.debt ∧ t.ps.request = s.ps.request
    | .freezeDeasserted => True
    | .purgeIntervalExpiry => t.ps.request = s.ps.request
    | .purgeDurationExpiry => t.ps.interval = s.ps.interval
    | .purge _ _ => t.ps.debt = s.ps.debt ∧ t.ps.interval = s.ps.interval
    | _ => t.ps.debt = s.ps.debt ∧ t.ps.request = s.ps.request ∧ t.ps.interval = s.ps.interval) ∧
  ∀ (c : Instr) (s₀ t : State), exec c s₀ = .next t →
    let s := s₀.before c
    match c with
    | .powerOnReset => True
    | .lossOfSupply => True
    | .restart _ _ => True
    | .eyeBlockEdge => t.ac.gap = s.ac.gap ∧ t.lp.inHand = s.lp.inHand ∧ t.lp.failures = s.lp.failures
    | .eyeClearEdge => t.ac.turn = s.ac.turn ∧ t.lp.inHand = s.lp.inHand ∧ t.lp.failures = s.lp.failures
    | .encPulse => t.ac.turn = s.ac.turn ∧ t.lp.inHand = s.lp.inHand ∧ t.lp.failures = s.lp.failures
    | .clearTrain _ _ => t.ac.turn = s.ac.turn ∧ t.lp.inHand = s.lp.inHand ∧ t.lp.failures = s.lp.failures
    | .admissionGapExpiry => t.ac.turn = s.ac.turn ∧ t.lp.inHand = s.lp.inHand ∧ t.lp.failures = s.lp.failures
    | .sendAttemptStart => t.ac.turn = s.ac.turn ∧ t.ac.gap = s.ac.gap ∧ t.lp.failures = s.lp.failures
    | .attemptLost => t.ac.turn = s.ac.turn ∧ t.ac.gap = s.ac.gap ∧ t.lp.failures = s.lp.failures
    | .attemptFailed => t.ac.turn = s.ac.turn ∧ t.ac.gap = s.ac.gap
    | .attemptSucceeded => t.ac = s.ac ∧ t.lp.waiting = s.lp.waiting
    | .dominantLineStretch => t.ac.turn = s.ac.turn ∧ t.ac.gap = s.ac.gap ∧ t.lp.inHand = s.lp.inHand
    | _ => t.ac.turn = s.ac.turn ∧ t.ac.gap = s.ac.gap ∧ t.lp.inHand = s.lp.inHand ∧ t.lp.failures = s.lp.failures

/-! ### Rules of the shared computations -/

/-- R16: serial order of tickets, and its agreement with the order of issue (R15). R135, with R15: the ticket SU issues is not 0,
stands in no lane queue and in no entry after the issue, is the last issued, and is the successor of the last one wherever that
is free. -/
def Obligations.TicketsOrderedAndIssued : Prop :=
  ((∀ a b : Ticket, a ≠ 0 → b ≠ 0 →
    let d := (b - a).toNat
    (1 ≤ d → d ≤ 32767 → ticketOlder a b = true ∧ ticketOlder b a = false) ∧
      (32769 ≤ d → ticketOlder b a = true ∧ ticketOlder a b = false) ∧
      (d = 0 ∨ d = 32768 → ticketOlder a b = false ∧ ticketOlder b a = false)) ∧
    (∀ a : Ticket, ticketOlder a 0 = false ∧ ticketOlder 0 a = false) ∧
    ((1 : Ticket) - 65535).toNat = 2 ∧ ticketOlder 65535 1 = true ∧
    ∀ (a : Ticket) (k : Nat), a ≠ 0 → 1 ≤ k → k < 32767 → ticketOlder a (nextTicket^[k] a) = true) ∧
  ∀ u : SalesUnit, SalesLaw u →
    u.issue.1 ≠ 0 ∧ u.queued u.issue.1 = false ∧ (∀ e ∈ u.credits, e.ticket = u.issue.1 → e.isOpen = false) ∧
      u.issue.2.lastTicket = u.issue.1 ∧ (∀ e ∈ u.issue.2.credits, e.ticket ≠ u.issue.1) ∧
      (∀ e ∈ u.credits, e.ticket ≠ u.issue.1 → e ∈ u.issue.2.credits) ∧
      (u.queued (nextTicket u.lastTicket) = false →
        (∀ e ∈ u.credits, e.ticket = nextTicket u.lastTicket → e.isOpen = false) → u.issue.1 = nextTicket u.lastTicket)

/-- R121: the discount and the pre-rounded net, taken at the percentage of the SELECT's tier. R122 with R116: the net price of
a pre-rounded net n under a rounding unit u. R119, R120, R123, R125 and R126: what a QUOTED price is made of; its subtotal is the
plan's price and those of the add-ons named that bring a service the plan has not, and its services are those of the plan and of
every add-on the SELECT named, dropped or retained. R118, R123, R125: when the result is NOT_OFFERED, NO_CREDIT and QUOTED, and
the figures of the two refusals. -/
def Obligations.PriceComputation : Prop :=
  ((∀ subtotal percent : Nat, subtotal ≤ 65535 → percent ≤ 50 →
    discountOf subtotal percent = subtotal * percent / 100 ∧ discountOf subtotal percent * 100 ≤ subtotal * percent ∧
      subtotal * percent < discountOf subtotal percent * 100 + 100 ∧ discountOf subtotal percent ≤ subtotal / 2 ∧
      subtotal - discountOf subtotal percent ≤ 65535 ∧ discountOf subtotal 0 = 0) ∧
  (∀ (k : Catalogue) (plan : Nat) (addOns : Byte) (tier : Nat) (credit : Ticket) (l : List Credit),
    (k.price plan addOns tier credit l).result = .quoted →
      (k.price plan addOns tier credit l).subtotal ≤ 65535 ∧
        (k.price plan addOns tier credit l).net = netOf ((k.price plan addOns tier credit l).subtotal -
          discountOf (k.price plan addOns tier credit l).subtotal (k.tiers.getD tier 0)) k.rounding) ∧
  (∀ (k : Catalogue) (plan : Nat) (addOns : Byte) (tier : Nat) (credit : Ticket) (l : List Credit),
    let pr := k.price plan addOns tier credit l
    (k.plan plan = none ∨ 3 < tier ∨ (∃ n ∈ addOnNumbers addOns, ∀ a, k.addOn n = some a → a.allowed.getLsbD plan = false) →
      pr.result = .notOffered ∧ pr.subtotal = 0 ∧ pr.applied = 0 ∧ pr.due = 0) ∧
    ∀ pl, k.plan plan = some pl → tier ≤ 3 → (∀ n ∈ addOnNumbers addOns, ∃ a, k.addOn n = some a ∧ a.allowed.getLsbD plan = true) →
      (credit ≠ 0 → (∀ e ∈ l, e.ticket = credit → e.isOpen = true) →
        pr.result = .noCredit ∧ pr.applied = 0 ∧
          pr.subtotal = min 65535 (pl.price + ((((addOnNumbers addOns).filterMap k.addOn).filter
            (fun a => a.services &&& ~~~ pl.included != 0)).map (fun a => a.price)).sum) ∧
          pr.due = netOf (pr.subtotal - discountOf pr.subtotal (k.tiers.getD tier 0)) k.rounding) ∧
      (credit = 0 ∨ ((∃ e ∈ l, e.ticket = credit) ∧ ∀ e ∈ l, e.ticket = credit → e.isOpen = false) → pr.result = .quoted)) ∧
  ∀ n u : Nat, n ≤ 65535 → u ∈ [1, 5, 10, 25, 50, 100] →
    u ∣ netOf n u ∧ netOf n u ≤ 65535 ∧
      ((n + u - 1) / u * u ≤ 65535 → netOf n u = (n + u - 1) / u * u ∧ n ≤ netOf n u ∧ netOf n u < n + u) ∧
      (65535 < (n + u - 1) / u * u → (∀ m, u ∣ m → m ≤ 65535 → m ≤ netOf n u) ∧ netOf n u < n ∧ n < netOf n u + u) ∧
      (u ∣ n → netOf n u = n) ∧ netOf 0 u = 0 ∧ netOf 65532 10 = 65530) ∧
  ∀ (k : Catalogue) (plan : Nat) (addOns : Byte) (tier : Nat) (credit : Ticket) (l : List Credit),
    (k.price plan addOns tier credit l).result = .quoted →
      ∃ pl, k.plan plan = some pl ∧
        (∀ n ∈ addOnNumbers addOns, ∃ a, k.addOn n = some a ∧ a.allowed.getLsbD plan = true) ∧ tier ≤ 3 ∧
        (k.price plan addOns tier credit l).due + (k.price plan addOns tier credit l).applied =
          (k.price plan addOns tier credit l).net ∧
        (credit = 0 → (k.price plan addOns tier credit l).applied = 0) ∧
        (credit ≠ 0 → ∃ e ∈ l, e.ticket = credit ∧ e.isOpen = false ∧
          (k.price plan addOns tier credit l).applied = min e.amount (k.price plan addOns tier credit l).net) ∧
        (k.price plan addOns tier credit l).intensity = pl.intensity ∧
        (k.price plan addOns tier credit l).subtotal = min 65535 (pl.price +
          ((((addOnNumbers addOns).filterMap k.addOn).filter (fun a => a.services &&& ~~~ pl.included != 0)).map
            (fun a => a.price)).sum) ∧
        ∀ i : Nat, (k.price plan addOns tier credit l).services.getLsbD i = true ↔
          pl.included.getLsbD i = true ∨ ∃ n ∈ addOnNumbers addOns, ∃ a, k.addOn n = some a ∧ a.services.getLsbD i = true

/-- R144: crediting the codes of a missed set raises an entry by the values of its new codes, up to the cap. A REPORT at the
ENTRY credits the entry of its ticket so, and no other. -/
def Obligations.ReportCredits : Prop :=
  (∀ (values : List Nat) (missed : ServiceSet) (e : Credit), e.amount ≤ e.cap →
    (e.addCodes values missed).credited = e.credited ||| missed ∧
      (e.addCodes values missed).amount = min e.cap (e.amount +
        (((List.range 16).filter (fun c => missed.getLsbD c && !e.credited.getLsbD c)).map (fun c => values.getD c 0)).sum) ∧
      (e.addCodes values missed).cap = e.cap ∧ (e.addCodes values missed).ticket = e.ticket ∧
      (e.addCodes values missed).isOpen = e.isOpen) ∧
  ∀ (s₀ : State) (o : Origin) (k : Ticket) (given missed : ServiceSet),
    let s := s₀.deliverDue
    FromStation s o .arch → s.role = .entry →
    ∃ t, exec (.report o k given missed) s₀ = .next t ∧
      t.su.credits = s.su.credits.map (fun e => if e.ticket = k then e.addCodes s.su.catalogue.values missed else e)

/-- R10, R11, R12: a front that a rule sets reads back clamped to 16,383, rises by one with each pulse up to 16,383, and the
rear follows it at the car's length, or at Lmax while the length is absent: from −1,023 to 16,382, no further while the front
reads 16,383, and higher at once by Lmax less the length when the length becomes known. -/
def Obligations.FrontAndRear : Prop :=
  ∀ (c : Car) (p : Pulse) (x lmax : Nat),
    (c.setFront p x).front p = min x 16383 ∧ c.front p ≤ 16383 ∧
      ((p - c.mark).toNat ≤ 16383 → c.front (p + 1) = min (c.front p + 1) 16383) ∧
      (∀ n, c.length = some n → c.rear p lmax = (c.front p : Int) - n ∧ (c.front p = 16383 → c.rear p lmax = 16383 - n) ∧
        (1 ≤ n → n ≤ 1023 → -1023 ≤ c.rear p lmax ∧ c.rear p lmax ≤ 16382)) ∧
      (c.length = none → c.rear p lmax = (c.front p : Int) - lmax ∧ (c.front p = 16383 → c.rear p lmax = 16383 - lmax) ∧
        (1 ≤ lmax → lmax ≤ 1023 → -1023 ≤ c.rear p lmax ∧ c.rear p lmax ≤ 16382) ∧
        ∀ n, n ≤ lmax → ({ c with length := some n }).rear p lmax = c.rear p lmax + (lmax - n))

/-- R19 and R47: a placement that meets no OVERFLOW and no CLOSING stores the car at its place, at the requested front
clipped into the permitted interval, with its tickets and every other car's position as they were. Where the placement ends a
run-on at a TIME-trail dryer, a car past the retire point may leave in the same action (R24, R44; log entry 35). R29: a synced
car whose front so lies above E + T departs at the EXIT as it is placed, and no other car with it; its ticket is remembered and
its DEPART waits with lost 1. That the placement examines the windows of the placed car alone is the model's reading (log entry
6). -/
def Obligations.PlacementStoresCar : Prop :=
  ∀ (s : State) (k x : Nat) (base : Car), TrainLaw s → s.holds base.ticket = false → s.ts.train.length < 24 →
    k ≤ s.ts.train.length →
    (permittedInterval s.pc.p k s.ts.train).1 ≤ (permittedInterval s.pc.p k s.ts.train).2 →
      let front := (max (permittedInterval s.pc.p k s.ts.train).1 (min x (permittedInterval s.pc.p k s.ts.train).2)).toNat
      let leaves := s.role = .exit ∧ base.synced = true ∧ s.cl.constants.eye ≠ 0 ∧
        s.cl.constants.eye + s.cl.constants.tolerance < front
      let stored := (s.ts.train.take k).map (fun c => (c.ticket, c.mark)) ++
        (base.ticket, markAt s.pc.p front) ::
        (s.ts.train.drop k).map (fun c => (c.ticket, c.mark))
      (¬ leaves → (∀ ch ∈ s.ss, ch.cfg.timeTrail = false ∨ ch.state = .suspended) →
        (s.placeCar k x base).ts.train.map (fun c => (c.ticket, c.mark)) = stored) ∧
      ((s.placeCar k x base).ts.train.map (fun c => (c.ticket, c.mark))).Sublist stored ∧
      (leaves → (s.placeCar k x base).ts.train.map (fun c => (c.ticket, c.mark)) = s.ts.train.map (fun c => (c.ticket, c.mark)) ∧
        (s.placeCar k x base).ts.recent = enterRecent base.ticket s.ts.recent ∧
        (s.ss = [] → s.lp.size < 16 → (s.placeCar k x base).waitsFrame (.depart base.ticket 1)))

/-! ### The station line -/

/-- R164, R165, R167, R168, R169 and 11.7: the bits a sender drives for the frame of a command are read back as that command.
R164: no six bits of one level stand together in a stuffed frame. R166, R165: of the senders of one priority field, those
of the lowest priority value are left when the field ends; a lower kind code, and in one kind a lower origin, has the lower
value. That a run of five that ends at the last check bit brings its stuff bit too is the model's choice (log entry 41). -/
def Obligations.SentBitsAndArbitration : Prop :=
  (∀ (i : Instr) (o : Origin) (f : Frame), frameOf i = some (o, f) → commandOfBits (sentBits o f) = some i) ∧
  (∀ (l : List Bool) (x y : List Bool) (b : Bool), stuff l ≠ x ++ List.replicate 6 b ++ y) ∧
  ((∀ l : List Nat, (∀ v ∈ l, v < 1024) → arbitrationWinners l = l.filter (fun v => l.all (fun w => decide (v ≤ w)))) ∧
    ∀ (o₁ o₂ : Origin) (f₁ f₂ : Frame),
      (f₁.kind < f₂.kind → priorityValue o₁ f₁ < priorityValue o₂ f₂) ∧
        (f₁.kind = f₂.kind → o₁ < o₂ → priorityValue o₁ f₁ < priorityValue o₂ f₂) ∧ priorityValue o₁ f₁ < 1024)

/-! ### Supply, start and time base -/

/-- POWER_ON_RESET and LOSS_OF_SUPPLY (R200, R207, R208): every block at its reset value, the pins as the field holds them.
That LOSS_OF_SUPPLY puts the blocks at reset at once is the model's choice (log entry 13). RESTART (R85, R105, R147, R206), taken
from a console under an H cause, or in CONFIG_FAULT (R205): every block at its reset value but for what R206 keeps; the ENTRY
keeps its queues, its counters and its credit table, to which the credit of each voided sale is restored (R139), lane A's first
(log entry 40). Without an H cause a RESTART is ignored and changes nothing. That SU keeps its counters at a station in
CONFIG_FAULT is the model's reading (log entry 16). -/
def Obligations.ResetsAndRestart : Prop :=
  (∀ s : State,
    (∃ t, exec .powerOnReset s = .next t ∧ (t.setInputs State.reset.inputs).setPending [] = State.reset ∧
      t.pending = s.pending ∧
      ∀ q : InputPin, (t.inputs.get q).pin = (s.inputs.get q).pin ∧ (t.inputs.get q).level = false ∧
        (t.inputs.get q).counter = if (s.inputs.get q).pin = true then Pace.load (debounceTime q) else Pace.idle) ∧
    ∃ t, exec .lossOfSupply s = .next t ∧ t.inReset = true ∧ (∀ k : Cause, t.owns k = false) ∧ OutputsOff t ∧
      t.ts.train = [] ∧ t.lp.waiting = [] ∧ t.lp.inHand = none ∧ t.pt.peers = [] ∧ t.pending = s.pending) ∧
  ∀ (s₀ : State) (o : Origin) (target : Byte),
    let s := s₀.deliverDue
    ((Commands s o target ∧ s.grade = some .halt) ∨
      (s.inReset = false ∧ s.hc.runState = .configFault ∧ 17 ≤ o.toNat ∧ o.toNat ≤ 30 ∧
        (target = 0 ∨ ∃ f, s.cl.faultOrigin = some f ∧ target.toNat = f.toNat)) →
      ∃ t, exec (.restart o target) s₀ = .next t ∧ t.hc.runState = .loading ∧
        (∀ k : Cause, t.owns k = true ↔ k = .startup ∨ (k = .runaway ∧ s.owns .runaway = true)) ∧
        t.ts = TrainStore.reset ∧ t.pc = PulseCounter.reset ∧ t.lp = LinePort.reset ∧ t.pt = PeerTable.reset ∧ t.ss = [] ∧
        t.fb = FlowBudget.reset ∧ t.ps = PurgeScheduler.reset ∧ t.ac = Admission.reset ∧ t.cl = Loader.reset ∧
        t.hc.stop = Pace.idle ∧ t.hc.standby = Pace.idle ∧ OutputsOff t ∧
        (∀ q : InputPin, q ≠ .eye → t.inputs.get q = s.inputs.get q) ∧ t.inputs.overTemp = s.inputs.overTemp ∧
        t.inputs.eye = ⟨s.inputs.eye.pin, false, if s.inputs.eye.pin = true then Pace.load 10 else Pace.idle⟩ ∧
        (s.role ≠ .entry → s.hc.runState ≠ .configFault → t.su = SalesUnit.reset) ∧
        (s.role = .entry ∨ s.hc.runState = .configFault →
          t.su.lastSale = s.su.lastSale ∧ t.su.lastTicket = s.su.lastTicket ∧
          (let restored := fun (u : SalesUnit) (l : Lane) =>
            match s.openSale l with
            | some x => u.restore x
            | none => u
          t.su.credits = (restored (restored s.su .a) .b).credits) ∧
          ((∀ l x, s.openSale l = some x → x.creditTicket = 0) → t.su.credits = s.su.credits) ∧ ∀ l : Lane,
            (t.su.lane l).openSale = none ∧ (t.su.lane l).timeout = Pace.idle ∧
            (t.su.lane l).queue = (s.su.lane l).queue.map (fun x => if x.state = .called then { x with state := .paid } else x) ∧
            ((s.su.lane l).openSale = none → (t.su.lane l).pendingVoid = (s.su.lane l).pendingVoid) ∧
            (∀ x, (s.su.lane l).openSale = some x →
              (t.su.lane l).pendingVoid = some ⟨x.number, x.tendered⟩))) ∧
    (ClaimLaw s → Commands s o target → s.grade ≠ some .halt → exec (.restart o target) s₀ = .next s)

/-- LOADING_END with a sound image (R87, R95, R111, R161, R183, R184, R185, R204): the stop window, the beacon counter and the
join counter are loaded, and where no more than STARTUP and RUNAWAY were held and the transmit queue is empty, one HALT for each
member of the own set waits, and the first BEACON. LOADING_END with a faulty image (R205):
CONFIG_FAULT, MISMATCH raised and announced under the fault origin where there is one, every output off. Outside LOADING
nothing is read. That is the model's choice (log entry 32). -/
def Obligations.EndOfLoading : Prop :=
  (∀ (s₀ : State) (image : ImageBytes) (m : Image),
    let s := s₀.deliverDue
    s.inReset = false → s.hc.runState = .loading →
    judgeImage image.toList = some m →
      ∃ t, exec (.loadingEnd image) s₀ = .next t ∧ t.hc.runState = .joining ∧ t.cl.constants = m.constants ∧
        t.pt.peers = m.peers.map (fun x => newPeer x.1 x.2) ∧ t.pt.others = m.others ∧
        t.pt.beacon = Pace.load m.constants.beaconPeriod ∧ t.pt.join = Pace.load 5000 ∧
        (s.owns .startup = true → t.hc.stop = Pace.load m.constants.stopWindow) ∧
        (HaltLaw s → ClaimLaw s → s.lp.size = 0 → (∀ k : Cause, s.owns k = true → k = .startup ∨ k = .runaway) →
          t.waitsFrame t.liveBeacon ∧
            ∀ k : Cause, t.owns k = true → t.waitsFrame (.halt (byte k.rank) k.grade.code (byte (currentRank t.hc.own)))) ∧
        t.ss.map (fun ch => ch.cfg) = m.channels ∧ t.su.catalogue = m.catalogue ∧
        (∀ k : Cause, t.owns k = true ↔ s.owns k = true ∨ (k = .estop ∧ s.inputs.estop.level = true) ∨
          (k = .opPause ∧ s.inputs.pause.level = true) ∨ (k = .chemLow ∧ s.inputs.chemLow.level = true)) ∧
        t.ac.limit = max m.constants.admissionLimit s.inTunnel ∧ t.pc = s.pc ∧ t.inputs = s.inputs) ∧
  ((∀ (s₀ : State) (image : ImageBytes),
    let s := s₀.deliverDue
    s.inReset = false → s.hc.runState = .loading → judgeImage image.toList = none →
    ∃ t, exec (.loadingEnd image) s₀ = .next t ∧ t.hc.runState = .configFault ∧ t.owns .mismatch = true ∧ OutputsOff t ∧
      t.cl.faultOrigin = faultOriginOf image.toList ∧
      (∀ k : Cause, k ≠ .mismatch → t.owns k = s.owns k) ∧
      (faultOriginOf image.toList ≠ none → s.lp.waiting = [] → s.lp.size < 16 →
        t.waitsFrame (.halt 11 1 (byte (currentRank t.hc.own)))) ∧
      (faultOriginOf image.toList = none → t.lp = s.lp)) ∧
  ∀ (s₀ : State) (image : ImageBytes), s₀.deliverDue.hc.runState ≠ .loading → exec (.loadingEnd image) s₀ = .next s₀.deliverDue)

/-- ENC_PULSE (R1, R4, R5, R6): counted in every run state; at a station whose eye samples nothing at this pulse, every car
that is still held has moved one pulse on. TICK and SPEED_WINDOW_END (R4, R6, R8, R189): the age of the last pulse and of
every record rises, saturating; in READY, RUN and STANDBY the tick at which a record falls silent raises SILENT (R190), in
JOINING and SYNCING none does, and a tick raises nothing else; a window ends at its 250th tick, and v takes the window count. R3,
R7, R8, R9: a counter loaded with n is RUNNING until the nth counting event after the load, which brings it to IDLE and its
expiry about, and an IDLE counter ignores counting events; the command of an event that is not due changes nothing; and a sale
timeout that has run out is taken before the command that comes next, whatever it is. That an expiry is a step of its own, which
comes before the next command, is the model's choice (log entry 1). -/
def Obligations.PulseTickAndWindow : Prop :=
  (∀ s₀ : State,
    let s := s₀.deliverDue
    s.inReset = false →
    ∃ t, exec .encPulse s₀ = .next t ∧ t.pc.p = s.pc.p + 1 ∧ t.pc.lastPulseAge = 0 ∧
      t.pc.windowCount = min (s.pc.windowCount + 1) 255 ∧ t.pc.v = (if s.pc.v = 0 then 1 else s.pc.v) ∧
      (TrainLaw s → s.role = .entry ∨ (s.ts.held = false ∧ s.pc.v ≠ 0) → (∀ c ∈ s.ts.train, c.front s.pc.p < 16383) →
        ∀ y ∈ t.ts.train, ∃ x ∈ s.ts.train, x.ticket = y.ticket ∧ y.front t.pc.p = x.front s.pc.p + 1)) ∧
  (∀ s₀ : State,
    let s := s₀.deliverDue
    s.inReset = false →
    ∃ t, exec .tick s₀ = .next t ∧ t.pc.lastPulseAge = min (s.pc.lastPulseAge + 1) 65535 ∧ t.pc.p = s.pc.p ∧
      (∀ l : Lane, (t.su.lane l).timeout = (s.su.lane l).timeout.count) ∧ t.pt.beacon = s.pt.beacon.count ∧
      (s.active = true → t.pt.peers.map (fun r => r.age) = s.pt.peers.map (fun r => min (r.age + 1) 65535) ∧
        t.hc.own =
          let limit := s.cl.constants.silentLimit * s.cl.constants.beaconPeriod
          if (s.hc.runState = .ready ∨ s.hc.runState = .run ∨ s.hc.runState = .standby) ∧
              ∃ r ∈ s.pt.peers, r.heard = true ∧ r.age ≤ limit ∧ limit < min (r.age + 1) 65535
          then addCause s.hc.own .silent else s.hc.own)) ∧
  (∀ s : State, s.inReset = false → s.pc.windowTicks = 250 →
    ∃ t, exec .speedWindowEnd s = .next t ∧ t.pc.v = s.pc.windowCount ∧ t.pc.windowCount = 0 ∧ t.pc.windowTicks = 0 ∧
      t.pc.p = s.pc.p) ∧
  (∀ k n : Nat, k ≤ n → n ≤ 4194303 → (Pace.count^[k] (Pace.load n)).ranOut = decide (k = n) ∧
    (Pace.count^[k] (Pace.load n)).running = decide (k < n) ∧ (Pace.count^[k] (Pace.load n)).remaining = n - k) ∧
  (∀ c : Pace, c.running = false → c.count = c) ∧
  (∀ (c : Instr) (s : State), s.due c = false → exec c s = .next s) ∧
  ∀ (s₀ : State) (l : Lane), s₀.active = true → (s₀.su.lane l).timeout.ranOut = true →
    s₀.deliverDue.openSale l = none ∧ (s₀.deliverDue.su.lane l).timeout = Pace.idle

/-- ENC_PULSE at the channels and in the train, of a car held before and after. R43, R45, R46: in the pulse part of its window
each pulse counts for it at a channel that serves, and none at one that does not; the pulse at which its rear passes C and the
trail closes the window uncounted and judges it (R48), or begins its run-on at a TIME-trail dryer (R44); a PENDING window
opens at the pulse at which its front reaches C less the lead, and closes at once where its rear has passed too; a final
progress stands. Where a forced purge starts in the same action the sprays are left out (R63), and so is an EXIT whose eye
samples its level at the pulse, since R2 gives a departure that this brings no order with the work of the channels. R34: an
UNSEEN-YET car whose front lies above E + T is made UNSEEN, with MISSING or CLOSING, MISSING where no block is on. R23, R24: a
car leaves when its rear lies past the retire point and no run-on holds it, and at a station that is no keeper no such car
stays. -/
def Obligations.PulseWorksChannelsAndTrain : Prop :=
  ∀ s₀ : State,
    let s := s₀.deliverDue
    s.active = true → TrainLaw s →
    ∃ t, exec .encPulse s₀ = .next t ∧
      (∀ x ∈ s.ts.train, ∀ y ∈ t.ts.train, x.ticket = y.ticket → ∀ (i : Nat) (ch : Channel) (v : Progress) (n : Nat),
        s.ss[i]? = some ch → x.progress[i]? = some ⟨v, n⟩ →
        (ch.cfg.kind = .spray → t.ps.purge = .forced → s.ps.purge = .forced) →
        s.role ≠ .exit ∨ (s.ts.held = false ∧ s.pc.v ≠ 0) →
        let past := ((ch.cfg.position + ch.cfg.pulseTrail : Nat) : Int) < y.rear t.pc.p s.cl.constants.lmax
        let judged : Progress := if (ch.windowLength s.cl.constants.lmax y + 1) / 2 ≤ n then .given else .missed
        (v = .active → ch.runOnCar ≠ some x.ticket → ¬ past →
          y.progress[i]? = some ⟨.active, if ch.state = .engaged ∨ ch.state = .opened ∨ ch.state = .running
            then min (n + 1) 4095 else n⟩) ∧
        (v = .active → ch.runOnCar ≠ some x.ticket → past → ch.cfg.timeTrail = false ∨ ch.state = .suspended →
          y.progress[i]? = some ⟨judged, n⟩) ∧
        (v = .active → ch.runOnCar ≠ some x.ticket → past → ch.cfg.timeTrail = true → ch.state ≠ .suspended →
          y.progress[i]? = some ⟨judged, n⟩ ∨
            (y.progress[i]? = some ⟨.active, n⟩ ∧ ∃ ch' ∈ t.ss[i]?, ch'.runOnCar = some x.ticket ∧
              ch'.runOn = Pace.load ch.cfg.trail)) ∧
        (v = .pending → y.front t.pc.p + ch.cfg.lead < ch.cfg.position → y.progress[i]? = some ⟨.pending, n⟩) ∧
        (v = .pending → ch.runOnCar ≠ some x.ticket → ch.cfg.position ≤ y.front t.pc.p + ch.cfg.lead → ¬ past →
          y.progress[i]? = some ⟨.active, n⟩) ∧
        (v = .pending → ch.runOnCar ≠ some x.ticket → ch.cfg.position ≤ y.front t.pc.p + ch.cfg.lead → past →
          ch.cfg.timeTrail = false ∨ ch.state = .suspended → y.progress[i]? = some ⟨judged, n⟩) ∧
        (v.final = true → y.progress[i]? = some ⟨v, n⟩)) ∧
      (s.reconciles = true → t.ts.held = false → ∀ y ∈ t.ts.train, y.eye = .unseenYet →
        y.front t.pc.p ≤ s.cl.constants.eye + s.cl.constants.tolerance) ∧
      (∀ x ∈ s.ts.train, ∀ y ∈ t.ts.train, x.ticket = y.ticket → x.eye = .unseenYet → y.eye = .unseen →
        s.cl.constants.eye + s.cl.constants.tolerance < y.front t.pc.p ∧
          (t.owns .missing = true ∨ t.owns .closing = true) ∧ (t.ts.phase = .clear → t.owns .missing = true)) ∧
      (s.keeper = false → ∀ y ∈ t.ts.train, (s.retirePoint : Int) < y.rear t.pc.p s.cl.constants.lmax →
        ∃ ch ∈ t.ss, ch.runOnCar = some y.ticket) ∧
      (s.role = .entry ∨ (s.ts.held = false ∧ s.pc.v ≠ 0) → (∀ c ∈ s.ts.train, c.front s.pc.p < 16383) →
        ∀ x ∈ s.ts.train, t.holds x.ticket = false →
          s.keeper = false ∧ (s.retirePoint : Int) < x.rear (s.pc.p + 1) s.cl.constants.lmax)

/-- ENC_PULSE at a channel's state, outside halts. R54, R55, R66: a brush is ENGAGED after the pulse while it has a window open,
with its timers loaded where it was not before; with none it stands READY, but a PARKED one until a PENDING car that orders it
stands within twice the lead, and STANDBY keeps it PARKED. R62: a spray with no window open is CLOSED; with one, an OPEN spray
stays OPEN and a CLOSED or DEFERRED one takes the engagement test, each while the total of before the pulse is within the budget
and no other spray changes what it draws. R64: a dryer is RUNNING while a car is in its pulse part, and else RUN-ON while its
run-on lasts and OFF when it does not; that an OFF one does not go to RUN-ON is the model's choice (log entry 22). -/
def Obligations.PulseMovesChannelStates : Prop :=
  ∀ s₀ : State,
    let s := s₀.deliverDue
    s.active = true → HaltLaw s → ChannelLaw s → ClaimLaw s →
    ∃ t, exec .encPulse s₀ = .next t ∧ (s.halted = false → t.halted = false → ∀ (i : Nat) (ch : Channel), s.ss[i]? = some ch →
      ∃ ch' ∈ t.ss[i]?,
        (ch.cfg.kind = .brush →
          ch'.state =
            (if windowOpen i t.ts.train = true then
              if ch.state = .parked ∧ s.hc.runState = .standby then .parked else .engaged
            else if ch.state = .parked ∧ (s.hc.runState = .standby ∨ ∀ c ∈ t.ts.train, c.orders ch = true →
                c.progressAt i = .pending → c.front t.pc.p + 2 * ch.cfg.lead < ch.cfg.position) then .parked
            else .ready) ∧
          (ch'.state ≠ ch.state → ch'.state ≠ .parked → ch'.idle = Pace.load ch.cfg.idleTime) ∧
          (ch'.state = .engaged → ch.state ≠ .engaged →
            ch'.holdOff = (if ch.cfg.holdOff = 0 then Pace.idle else Pace.load ch.cfg.holdOff) ∧
              ch'.hot = if ch.override = true then Pace.load ch.cfg.hotTime else Pace.idle)) ∧
        (ch.cfg.kind = .spray → s.ps.purge = .none → t.ps.purge = .none →
          (windowOpen i t.ts.train = false → ch'.state = .closed) ∧
          (windowOpen i t.ts.train = true → ch.state = .opened → s.totalClaim ≤ s.cl.constants.budget → ch'.state = .opened) ∧
          (windowOpen i t.ts.train = true → ch.state ≠ .opened →
            (∀ (j : Nat) (x : Channel), s.ss[j]? = some x → j ≠ i → ∀ y, t.ss[j]? = some y → y.draws = x.draws) →
            ch'.state = if s.totalClaim + ch.cfg.demand ≤ s.cl.constants.budget then .opened else .deferred)) ∧
        (ch.cfg.kind = .dryer → ch'.state =
          if ch'.pulsePartOpen i t.ts.train = true then .running
          else if ch.state ≠ .off ∧ ch'.runOn.lasts = true then .runOn else .off))

/-! ### Field inputs -/

/-- PIN_LEVEL_CHANGE and OVER_TEMP_CHANGE (R58, R207): the pin takes its level and its debounce counter is loaded; a brush
records the over-temperature level and loads its thermal sustain counter. The edges of ESTOP_N, the pause input and CHEM_LOW
(R92, R93, R94): ESTOP, OPPAUSE and CHEM_LOW are raised, OPPAUSE and CHEM_LOW released, and the rising edge of ESTOP_N
releases nothing; before JOINING an edge changes the level alone (R87). FREEZE (R75, R80): asserted, PS loads the interval;
deasserted, debt and request are cleared, the interval is cancelled and a running purge ends. LANE_PRESENCE_CHANGE (R153): a
presence that goes takes its lane's skip counter to 0. An edge is due when its pin has held a new level unbroken for the whole
debounce time (R207), and is a step apart from the tick that brings it (log entries 1 and 14). -/
def Obligations.FieldInputEdges : Prop :=
  ((∀ (s₀ : State) (q : InputPin) (x : Bool),
    let s := s₀.deliverDue
    s.inReset = false → (s.inputs.get q).pin ≠ x →
    exec (.pinLevelChange q x) s₀ =
      .next (s.setInputs (s.inputs.set q ⟨x, (s.inputs.get q).level, Pace.load (debounceTime q)⟩))) ∧
  ∀ (s₀ : State) (k : ChannelNo) (x : Bool),
    let s := s₀.deliverDue
    s.active = true → s.inputs.overTemp.get k ≠ x →
    ∃ t, exec (.overTempChange k x) s₀ = .next t ∧ t.inputs.overTemp.get k = x ∧ t.hc.own = s.hc.own ∧
      ∀ ch, s.ss[k.val]? = some ch → ch.cfg.kind = .brush →
        ∃ ch' ∈ t.ss[k.val]?, ch'.recorded = x ∧ ch'.sustain = Pace.load 2000 ∧ ch'.override = ch.override) ∧
  (∀ (q : InputPin) (x : Bool) (n : Nat), n ≤ debounceTime q → q ≠ .resumeKey ∨ x = true →
    ((Debounced.tick q)^[n] ⟨x, !x, Pace.load (debounceTime q)⟩).due x = decide (n = debounceTime q)) ∧
  (∀ s : State, s.inReset = false →
    (s.inputs.estop.due true = true → ∃ t, exec .estopFallingEdge s = .next t ∧
      t.inputs.estop = ⟨true, true, Pace.idle⟩ ∧ t.hc.own = if s.active then addCause s.hc.own .estop else s.hc.own) ∧
    (s.inputs.estop.due false = true → ∃ t, exec .estopRisingEdge s = .next t ∧
      t.inputs.estop = ⟨false, false, Pace.idle⟩ ∧ t.hc.own = s.hc.own) ∧
    (s.inputs.pause.due true = true → ∃ t, exec .pauseInputAsserted s = .next t ∧
      t.inputs.pause = ⟨true, true, Pace.idle⟩ ∧ t.hc.own = if s.active then addCause s.hc.own .opPause else s.hc.own) ∧
    (s.inputs.pause.due false = true → ∃ t, exec .pauseInputDeasserted s = .next t ∧
      t.inputs.pause = ⟨false, false, Pace.idle⟩ ∧ t.hc.own = if s.active then dropCause s.hc.own .opPause else s.hc.own) ∧
    (s.inputs.chemLow.due true = true → ∃ t, exec .chemLowAsserted s = .next t ∧
      t.inputs.chemLow = ⟨true, true, Pace.idle⟩ ∧ t.hc.own = if s.active then addCause s.hc.own .chemLow else s.hc.own) ∧
    (s.inputs.chemLow.due false = true → ∃ t, exec .chemLowDeasserted s = .next t ∧
      t.inputs.chemLow = ⟨false, false, Pace.idle⟩ ∧ t.hc.own = if s.active then dropCause s.hc.own .chemLow else s.hc.own)) ∧
  ∀ s : State, s.inReset = false →
    (s.inputs.freeze.due true = true → ∃ t, exec .freezeAsserted s = .next t ∧ t.inputs.freeze = ⟨true, true, Pace.idle⟩ ∧
      t.ps.debt = s.ps.debt ∧ (s.purgeActive = true → t.ps.interval = Pace.load s.cl.constants.purgeInterval)) ∧
    (s.inputs.freeze.due false = true → ∃ t, exec .freezeDeasserted s = .next t ∧ t.inputs.freeze = ⟨false, false, Pace.idle⟩ ∧
      (s.purgeActive = true → t.ps.debt = 0 ∧ t.ps.request = false ∧ t.ps.interval = Pace.idle ∧ t.ps.purge = .none)) ∧
    ∀ (l : Lane) (x : Bool), (s.inputs.get (presencePin l)).due x = true →
      ∃ t, exec (.lanePresenceChange l x) s = .next t ∧ t.presence l = x ∧ t.presence (otherLane l) = s.presence (otherLane l) ∧
      (s.active = true → s.role = .entry → x = false → t.ac.skip l = 0)

/-- What a RESUME does (R101, R102, R109), given the state before and the state after. STALL is left out of the releases,
since a brush that engages again with a hold-off of 0 may raise it in the same action (R61). R41: where it releases MISSING or
CLOSING at the EXIT, every UNSEEN car leaves there, its ticket remembered and its DEPART with lost 1 waiting, oldest first, as
far as the queue has places; where it releases neither, none does. A press of the key is taken when its debounce counter has run
out (R207). -/
def Obligations.ResumeReleases : Prop :=
  let done := fun s t : State =>
    (∀ k : Cause, s.owns k = true → s.resumable k = false → t.owns k = true) ∧
      (∀ k : Cause, k ≠ .stall → s.owns k = true → s.resumable k = true → t.owns k = false) ∧
      (s.owns .startup = true → s.hc.runState = .ready → s.ts.syncFailed = false → t.hc.runState = .run) ∧
      (s.hc.runState = .standby → t.hc.runState = .run) ∧
      (s.owns .skew = true → ∀ r ∈ t.pt.peers, r.offset = none) ∧
      (s.role ≠ .exit → t.ts.recent = s.ts.recent) ∧
      (s.role = .exit → TrainLaw s →
        let lost := ticketsOf (s.ts.train.filter (fun c => c.eye == .unseen))
        (s.owns .missing = true ∨ s.owns .closing = true →
          ticketsOf t.ts.train = ticketsOf (s.ts.train.filter (fun c => c.eye != .unseen)) ∧
            t.ts.recent = lost.foldl (fun l k => enterRecent k l) s.ts.recent ∧
            (ProgressLaw s → s.lp.size + s.resumed.length + lost.length ≤ 16 →
              t.lp.waiting.filter (fun q => q.kind == 6) =
                s.lp.waiting.filter (fun q => q.kind == 6) ++ lost.map (fun k => ⟨.depart k 1, none⟩))) ∧
        (s.owns .missing = false → s.owns .closing = false →
          ticketsOf t.ts.train = ticketsOf s.ts.train ∧ t.ts.recent = s.ts.recent))
  (∀ s : State, s.active = true → s.inputs.resumeKey.due true = true → ∃ t, exec .resumeKeyPress s = .next t ∧ done s t) ∧
    ∀ (s₀ : State) (o : Origin) (target : Byte),
      let s := s₀.deliverDue
      Commands s o target → ∃ t, exec (.resume o target) s₀ = .next t ∧ done s t

/-! ### The eye and the gate -/

/-- EYE_BLOCK_EDGE at a reconciler (R31, R32, R33): the matching car passes and is named, and where no neighbour stands in
the way its front is set to E; with no candidate the block is UNMATCHED and UNEXPECTED is raised; a gap below G raises
CLOSING. EYE_CLEAR_EDGE at a reconciler (R36, R39, R40): the block ends, CLOSING is raised where the observed length and the
known length of the matched car differ by more than T and not else, and at the EXIT a matched car departs. R30: an edge taken
while the eye is held or the chain stands changes the level alone. An edge is taken when the debounce counter has run out
(R207). -/
def Obligations.EyeEdges : Prop :=
  (∀ s : State, TrainLaw s → s.active = true → s.reconciles = true → s.ts.held = false → s.pc.v ≠ 0 →
    s.inputs.eye.due true = true →
      ∃ t, exec .eyeBlockEdge s = .next t ∧ t.inputs.eye = ⟨true, true, Pace.idle⟩ ∧ t.ts.blockMark = some s.pc.p ∧
        (s.matching = none → t.ts.phase = .unmatched ∧ t.owns .unexpected = true) ∧
        ∀ k, s.matching = some k →
          (t.ts.phase = .matched k ∨ (t.ts.phase = .unmatched ∧ t.holds k = false)) ∧
          (∀ c ∈ t.ts.train, c.ticket = k → c.eye = .passed) ∧
          (∀ m, s.ts.lastClear = some m → (s.pc.p - m).toNat < s.cl.constants.gap → t.owns .closing = true) ∧
          (s.cl.constants.eye ≤ 8191 → (∀ x y c, s.ts.train = x ++ c :: y → c.ticket = k →
              (∀ d ∈ x, s.cl.constants.eye < d.front s.pc.p) ∧ ∀ d ∈ y, d.front s.pc.p < s.cl.constants.eye) →
            ∀ c ∈ t.ts.train, c.ticket = k → c.front t.pc.p = s.cl.constants.eye)) ∧
  (∀ s : State, s.active = true → s.reconciles = true → s.ts.held = false → s.pc.v ≠ 0 → s.inputs.eye.due false = true →
    ∃ t, exec .eyeClearEdge s = .next t ∧ t.inputs.eye = ⟨false, false, Pace.idle⟩ ∧ t.ts.phase = .clear ∧
      t.ts.blockMark = none ∧ t.ts.lastClear = some s.pc.p ∧
      (∀ (k : Ticket) (c : Car) (b : Pulse) (n : Nat), s.ts.phase = .matched k → s.car k = some c → s.ts.blockMark = some b →
        c.length = some n → t.owns .closing =
          (s.owns .closing || decide (s.cl.constants.tolerance < (((s.pc.p - b).toNat : Int) - n).natAbs))) ∧
      ((∀ k, s.ts.phase = .matched k → ∀ c, s.car k = some c → c.length = none ∨ s.ts.blockMark = none) →
        t.owns .closing = s.owns .closing) ∧
      ∀ k, s.ts.phase = .matched k → s.role = .exit →
        t.holds k = false ∧ t.ts.recent = enterRecent k s.ts.recent ∧ (s.lp.size ≤ 12 → t.waitsFrame (.depart k 0))) ∧
  ∀ s : State, ClaimLaw s → s.active = true → s.reconciles = true → s.ts.held = true ∨ s.pc.v = 0 →
    (s.inputs.eye.due true = true → exec .eyeBlockEdge s = .next (s.setInput .eye ⟨true, true, Pace.idle⟩)) ∧
    (s.inputs.eye.due false = true → exec .eyeClearEdge s = .next (s.setInput .eye ⟨false, false, Pace.idle⟩))

/-- ENC_PULSE at the eye. R30: the held flag is cleared at the first pulse in READY, RUN or STANDBY. R35: at that pulse, and at a
start pulse with the flag clear, the reconciler samples the level. A broken beam in CLEAR or UNMATCHED is matched as R31 and R32
give, the block mark set to P, with no gap check, and without a candidate raises UNEXPECTED; a whole beam ends a block, in MATCHED
as the clear edge of R36 does. At any other pulse the eye's marks and, but for the leaving of a matched car (R27), its phase stand,
and UNEXPECTED is not raised. R150: at the ENTRY a start pulse raises it where the beam is broken and the gate SHUT or
SPACING. -/
def Obligations.PulseSamplesEye : Prop :=
  ∀ s₀ : State,
    let s := s₀.deliverDue
    s.active = true → TrainLaw s →
    ∃ t, exec .encPulse s₀ = .next t ∧ t.ts.held = (s.ts.held && !s.hc.runState.settled) ∧
      (s.role = .entry → t.owns .unexpected = (s.owns .unexpected ||
        decide (s.pc.v = 0 ∧ s.inputs.eye.level = true ∧ (s.ac.gate = .shut ∨ s.ac.gate = .spacing)))) ∧
      (¬ SamplesEye s → t.ts.blockMark = s.ts.blockMark ∧ t.ts.lastClear = s.ts.lastClear ∧ PhaseStands s t ∧
        (s.role ≠ .entry → t.owns .unexpected = s.owns .unexpected)) ∧
      (SamplesEye s →
        match s.ts.phase, s.inputs.eye.level with
        | .clear, false => t.ts.phase = .clear ∧ t.ts.blockMark = s.ts.blockMark ∧ t.ts.lastClear = s.ts.lastClear ∧
            t.owns .unexpected = s.owns .unexpected
        | .matched _, true => PhaseStands s t ∧ t.ts.blockMark = s.ts.blockMark ∧ t.ts.lastClear = s.ts.lastClear ∧
            t.owns .unexpected = s.owns .unexpected
        | .unmatched, false => t.ts.phase = .clear ∧ t.ts.blockMark = none ∧ t.ts.lastClear = s.ts.lastClear ∧
            t.owns .unexpected = s.owns .unexpected
        | .matched k, false => t.ts.phase = .clear ∧ t.ts.blockMark = none ∧ t.ts.lastClear = some (s.pc.p + 1) ∧
            t.owns .unexpected = s.owns .unexpected ∧
            (∀ c b n, s.car k = some c → s.ts.blockMark = some b → c.length = some n → t.owns .closing =
              (s.owns .closing || decide (s.cl.constants.tolerance < (((s.pc.p + 1 - b).toNat : Int) - n).natAbs))) ∧
            ((∀ c, s.car k = some c → c.length = none ∨ s.ts.blockMark = none) → t.owns .closing = s.owns .closing) ∧
            (s.role = .exit → t.holds k = false ∧ t.ts.recent = enterRecent k s.ts.recent ∧
              (s.ss = [] → s.lp.size ≤ 12 → t.waitsFrame (.depart k 0)))
        | _, true => t.ts.blockMark = some (s.pc.p + 1) ∧ t.ts.lastClear = s.ts.lastClear ∧ t.owns .closing = s.owns .closing ∧
            (s.pulsed.matching = none → t.ts.phase = .unmatched ∧ t.owns .unexpected = true) ∧
            ∀ k, s.pulsed.matching = some k → t.owns .unexpected = s.owns .unexpected ∧
              (t.ts.phase = .matched k ∨ (t.ts.phase = .unmatched ∧ t.holds k = false)) ∧
              (∀ c ∈ t.ts.train, c.ticket = k → c.eye = .passed) ∧
              (s.cl.constants.eye ≤ 8191 → (∀ x y c, s.pulsed.ts.train = x ++ c :: y → c.ticket = k →
                  (∀ d ∈ x, s.cl.constants.eye < d.front (s.pc.p + 1)) ∧ ∀ d ∈ y, d.front (s.pc.p + 1) < s.cl.constants.eye) →
                ∀ c ∈ t.ts.train, c.ticket = k → c.front t.pc.p = s.cl.constants.eye))

/-- EYE_BLOCK_EDGE at the ENTRY while the gate calls a lane (R143, R148, R153, R156): admission; the lane passed over counts it,
and the ADMIT waits with δ = 0 and the entry mark. With the gate SHUT or SPACING and the chain moving it raises UNEXPECTED
(R158). Each pulse writes the δ of every waiting ADMIT again from its entry mark, but for a δ that has reached 255 (R157). -/
def Obligations.BlockEdgeAdmits : Prop :=
  (∀ s : State, s.active = true → s.role = .entry → s.inputs.eye.due true = true →
    (∀ (l : Lane) (x : Sale), s.ac.gate = .calling l → s.head l = some x →
      ∃ t, exec .eyeBlockEdge s = .next t ∧ t.ac.gate = .entering ⟨x.ticket, l, s.pc.p⟩ ∧ t.ac.callTimeout = Pace.idle ∧
        t.ac.turn = otherLane s.ac.turn ∧ t.ac.skip l = 0 ∧ t.ac.skip (otherLane l) =
          (if s.candidate (otherLane l) = true then min (s.ac.skip (otherLane l) + 1) 7 else s.ac.skip (otherLane l)) ∧
        (t.su.lane l).queue = (s.su.lane l).queue.tail ∧
        (s.ss = [] → s.lp.size ≤ 12 →
          ⟨.admitCar x.ticket 0 x.services (byte x.intensity) (laneCode l), some s.pc.p⟩ ∈ t.lp.waiting) ∧
        t.su.credits = addCredit ⟨x.ticket, x.net, 0, 0, true⟩ s.su.credits ∧
        (s.ss = [] → s.holds x.ticket = false → s.ts.train.length < 24 → (∀ c ∈ s.ts.train, 0 < c.front s.pc.p) →
          ticketsOf t.ts.train = ticketsOf s.ts.train ++ [x.ticket])) ∧
    (s.ac.gate = .shut ∨ s.ac.gate = .spacing → s.pc.v ≠ 0 →
      ∃ t, exec .eyeBlockEdge s = .next t ∧ t.owns .unexpected = true ∧ t.ac.gate = s.ac.gate)) ∧
  ∀ s₀ : State,
    let s := s₀.deliverDue
    s.active = true → ∃ t, exec .encPulse s₀ = .next t ∧
    ∀ (k : Ticket) (d : Byte) (services : ServiceSet) (i l : Byte) (m : Pulse),
      ⟨.admitCar k d services i l, some m⟩ ∈ t.lp.waiting →
        ∃ d₀ : Byte, ⟨.admitCar k d₀ services i l, some m⟩ ∈ s.lp.waiting ∧
          d = if d₀ = 255 then 255 else byte (min (s.pc.p + 1 - m).toNat 255)

/-- EYE_CLEAR_EDGE at the ENTRY while a car is ENTERING (R159): the length is measured, filled in and queued, LONG is raised
above Lmax, and the admission gap begins. CALL_TIMEOUT_EXPIRY (R140, R141, R162): the sale returns to the head of its queue
with one call timeout more, and the third abandons it for a credit of its whole net. ADMISSION_GAP_EXPIRY (R160): SPACING
ends, and a call may begin at once. An expiry command is taken when its counter has run out (R8). -/
def Obligations.EntryEndsAndGateCounters : Prop :=
  (∀ (s : State) (r : Entering), TrainLaw s → s.active = true → s.role = .entry → s.inputs.eye.due false = true →
    s.ac.gate = .entering r →
      let len := min (s.pc.p - r.entryMark).toNat 1023
      ∃ t, exec .eyeClearEdge s = .next t ∧ t.ac.gate = .spacing ∧ t.ac.gap = Pace.load s.cl.constants.admissionGap ∧
        t.owns .long = (s.owns .long || decide (s.cl.constants.lmax < len)) ∧
        (s.lp.size ≤ 12 → t.waitsFrame (.length r.ticket (half len))) ∧
        (1 ≤ len → len ≤ s.cl.constants.lmax → ∀ c ∈ t.ts.train, c.ticket = r.ticket →
          ∃ c₀ ∈ s.ts.train, c₀.ticket = r.ticket ∧ c.length = some (c₀.length.getD len))) ∧
  ((∀ (s : State) (l : Lane) (x : Sale) (xs : List Sale), s.active = true → s.ac.callTimeout.ranOut = true →
    s.ac.gate = .calling l → (s.su.lane l).queue = x :: xs →
      ∃ t, exec .callTimeoutExpiry s = .next t ∧
        (x.callTimeouts < 2 → t.su.credits = s.su.credits ∧
          ((t.su.lane l).queue = { x with callTimeouts := x.callTimeouts + 1, state := .paid } :: xs ∨
            (t.su.lane l).queue = { x with callTimeouts := x.callTimeouts + 1, state := .called } :: xs)) ∧
        (2 ≤ x.callTimeouts → t.su.credits = addCredit ⟨x.ticket, x.net, 0, x.net, false⟩ s.su.credits ∧
          (t.su.lane l).queue.map (fun y => y.ticket) = xs.map (fun y => y.ticket))) ∧
  ∀ s : State, s.active = true → s.ac.gap.ranOut = true →
    ∃ t, exec .admissionGapExpiry s = .next t ∧ t.ac.gap = Pace.idle ∧
      (s.ac.gate = .spacing → t.ac.gate = .shut ∨ ∃ l, t.ac.gate = .calling l ∧ t.candidate l = true) ∧
      (s.ac.gate = .spacing → s.hc.runState ≠ .run → t.ac.gate = .shut))

/-! ### Channels -/

/-- THERMAL_SUSTAIN_EXPIRY and HOT_TIMER_EXPIRY (R58, R59): override follows the recorded level; HOT is raised by the timer,
and released when override ends on the last brush that had it, not while another keeps its override. CURRENT_SAMPLE and
HOLD_OFF_EXPIRY (R60, R61): the over run counts consecutive over samples, and STALL is raised when it reaches the stall time
with the hold-off over. An expiry command is taken when its counter has run out (R8). -/
def Obligations.ThermalAndCurrent : Prop :=
  (∀ (s : State) (i : ChannelNo) (ch : Channel), ClaimLaw s → s.active = true → s.ss[i.val]? = some ch →
    (ch.sustain.ranOut = true → ∃ t, exec (.thermalSustainExpiry i) s = .next t ∧
      (∃ ch' ∈ t.ss[i.val]?, ch'.override = ch.recorded ∧ ch'.sustain = Pace.idle) ∧
      (ch.override = true → ch.recorded = false → (∀ (j : Nat) (x : Channel), s.ss[j]? = some x → j ≠ i.val → x.override = false) →
        t.hc.own = dropCause s.hc.own .hot) ∧
      (ch.override = true → ch.recorded = false → (∃ (j : Nat) (x : Channel), s.ss[j]? = some x ∧ j ≠ i.val ∧ x.override = true) →
        t.hc.own = s.hc.own) ∧
      (ch.override = false ∨ ch.recorded = true → t.hc.own = s.hc.own)) ∧
    (ch.hot.ranOut = true → ∃ t, exec (.hotTimerExpiry i) s = .next t ∧ t.hc.own = addCause s.hc.own .hot ∧
      ∃ ch' ∈ t.ss[i.val]?, ch'.hot = Pace.idle)) ∧
  ∀ (s : State) (i : ChannelNo) (ch : Channel), ClaimLaw s → s.active = true → s.ss[i.val]? = some ch →
    (∀ reading : Byte, ch.sample.ranOut = true →
      let high := (ch.state = .ready ∨ ch.state = .engaged) ∧
        min (min (ch.cfg.iIdle + ch.level * ch.cfg.iStep) 255 + ch.cfg.margin) 255 < reading.toNat
      ∃ t, exec (.currentSample i reading) s = .next t ∧
        (high → ch.holdOff.running = false → ch.cfg.stallTime ≤ min (ch.overRun + 10) 2550 → t.owns .stall = true ∧
          ∃ ch' ∈ t.ss[i.val]?, ch'.sample = Pace.load 10) ∧
        (high → ch.holdOff.running = true ∨ min (ch.overRun + 10) 2550 < ch.cfg.stallTime → t.hc.own = s.hc.own ∧
          ∃ ch' ∈ t.ss[i.val]?, ch'.overRun = min (ch.overRun + 10) 2550 ∧ ch'.sample = Pace.load 10) ∧
        (¬ high → t.hc.own = s.hc.own ∧ ∃ ch' ∈ t.ss[i.val]?, ch'.overRun = 0 ∧ ch'.sample = Pace.load 10)) ∧
    (ch.holdOff.ranOut = true → ∃ t, exec (.holdOffExpiry i) s = .next t ∧
      (ch.cfg.stallTime ≤ ch.overRun → t.owns .stall = true) ∧
      (ch.overRun < ch.cfg.stallTime → t.hc.own = s.hc.own ∧ ∃ ch' ∈ t.ss[i.val]?, ch'.holdOff = Pace.idle))

/-- IDLE_TIMER_EXPIRY and BRUSH_DRIVE_PERIOD (R55, R57), with the on-time a brush takes. R57: in a drive period that began
with on-time N, the drive output of a brush is on in the first N milliseconds and off in the rest, and the period is over at its
eighth tick. RUN_ON_EXPIRY (R44, R48): the run-on ends, and the window of its car is judged: GIVEN where the engaged count has
reached half the window length rounded up, MISSED below. An expiry command is taken when its counter has run out (R8), and a new
period begins when the one before it is over (log entry 21). -/
def Obligations.ChannelTimersAndDrive : Prop :=
  ((∀ (s : State) (i : ChannelNo) (ch : Channel), ClaimLaw s → s.active = true → s.ss[i.val]? = some ch →
    ch.cfg.kind = .brush →
    (ch.idle.ranOut = true → ∃ t, exec (.idleTimerExpiry i) s = .next t ∧ ∃ ch' ∈ t.ss[i.val]?,
      ch'.idle = Pace.idle ∧ ch'.state = (if ch.state = .ready then .parked else ch.state)) ∧
    (ch.drivePhase = 8 → ∃ t, exec (.brushDrivePeriod i) s = .next t ∧
      t.ss[i.val]? = some { ch with
        onTime := if ch.state = .engaged then ch.level else if ch.state = .ready then 1 else 0, drivePhase := 0 })) ∧
  ∀ (ch : Channel) (k : Nat), ch.cfg.kind = .brush → k < 8 →
    (Channel.tick^[k + 1] { ch with onTime := ch.drivePeriodOn, drivePhase := 0 }).drivePhase = k + 1 ∧
    (Channel.tick^[k] { ch with onTime := ch.drivePeriodOn, drivePhase := 0 }).drive = decide (k < ch.drivePeriodOn) ∧
      ch.drivePeriodOn = (if ch.state = .engaged then ch.level else if ch.state = .ready then 1 else 0)) ∧
  ∀ (s : State) (i : ChannelNo) (ch : Channel) (k : Ticket), TrainLaw s → s.active = true → s.ss[i.val]? = some ch →
    ch.runOn.ranOut = true → ch.runOnCar = some k →
      ∃ t, exec (.runOnExpiry i) s = .next t ∧
        (∃ ch' ∈ t.ss[i.val]?, ch'.runOnCar = none ∧ ch'.runOn = Pace.idle) ∧
        ∀ x ∈ s.ts.train, x.ticket = k → ∀ n, x.progress[i.val]? = some ⟨.active, n⟩ →
          ∀ y ∈ t.ts.train, y.ticket = k →
            y.progressAt i.val = if (ch.windowLength s.cl.constants.lmax x + 1) / 2 ≤ n then .given else .missed

/-! ### Purge, stop window and standby -/

/-- PURGE_INTERVAL_EXPIRY, PURGE_DURATION_EXPIRY and the console PURGE (R75, R77, R78, R82): the debt rises to 4 at most and
falls by one, a debt of 4 purges at once unless the station is halted, and the request is set and cleared. R76: a console PURGE
starts a normal purge where nothing stands in its way; and whatever begins a purge, a normal one finds an owed or requested
purge, a debt below 4, no window open at a spray, no H or P cause and room in the budget, a forced one a debt of 4 and no H or P
cause, the duration counter is loaded, every spray PURGING and the claim the sum of their demands (R77).
STOP_WINDOW_EXPIRY and STANDBY_EXPIRY (R97, R98, R108): a pulse within the last 250 ticks raises RUNAWAY and turns every
output off; an idle station in RUN goes to STANDBY. An expiry command is taken when its counter has run out (R8). -/
def Obligations.PurgeStopAndStandby : Prop :=
  ((∀ s : State, s.active = true →
    (s.ps.interval.ranOut = true → ∃ t, exec .purgeIntervalExpiry s = .next t ∧ t.ps.debt = min (s.ps.debt + 1) 4 ∧
      t.ps.interval = Pace.load s.cl.constants.purgeInterval ∧
      (s.purgeActive = true → 3 ≤ s.ps.debt → s.ps.debt ≤ 4 → s.ps.purge = .none → s.halted = false → t.ps.purge = .forced)) ∧
    (s.ps.duration.ranOut = true → ∃ t, exec .purgeDurationExpiry s = .next t ∧ t.ps.debt = s.ps.debt - 1 ∧
      t.ps.request = false ∧ (s.ps.debt ≤ 1 → t.ps.purge = .none))) ∧
    ∀ (s₀ : State) (o : Origin) (target : Byte),
      let s := s₀.deliverDue
      Commands s o target → ∃ t, exec (.purge o target) s₀ = .next t ∧
      (s.purgeActive = true → t.ps.request = true) ∧
      (HaltLaw s → ClaimLaw s → s.ps.request = false → PurgeDue (s.setPs { s.ps with request := true }) → s.ps.debt ≠ 4 →
        t.ps.purge = .normal) ∧
      ∀ (j : Nat) (ch : Channel), s.ss[j]? = some ch → ch.cfg.kind = .brush → ch.state = .ready ∨ ch.state = .engaged →
        ∃ ch' ∈ t.ss[j]?, ch'.idle = Pace.load ch.cfg.idleTime) ∧
  (∀ (c : Instr) (s₀ t : State), exec c s₀ = .next t →
    let s := s₀.before c
    HaltLaw s → ClaimLaw s → s.ps.purge = .none → t.ps.purge ≠ .none →
      t.purgeActive = true ∧ t.halted = false ∧ t.ps.duration = Pace.load s.cl.constants.purgeDuration ∧
      (∀ ch ∈ t.ss, ch.cfg.kind = .spray → ch.state = .purging) ∧ t.fb = ⟨t.purgeDemand, 0⟩ ∧
      (t.ps.purge = .forced → t.ps.debt = 4) ∧
      (t.ps.purge = .normal → (0 < t.ps.debt ∨ t.ps.request = true) ∧ t.ps.debt < 4 ∧
        (∀ (i : Nat) (ch : Channel), t.ss[i]? = some ch → ch.cfg.kind = .spray → windowOpen i t.ts.train = false) ∧
        t.totalClaim ≤ t.cl.constants.budget)) ∧
  ∀ s : State, s.active = true →
    (s.hc.stop.ranOut = true → ∃ t, exec .stopWindowExpiry s = .next t ∧
      (s.pc.lastPulseAge ≤ 249 → t.owns .runaway = true ∧ OutputsOff t) ∧
      (249 < s.pc.lastPulseAge → t.hc.own = s.hc.own ∧ t.hc.stop = Pace.idle)) ∧
    (s.hc.standby.ranOut = true → ∃ t, exec .standbyExpiry s = .next t ∧ t.hc.own = s.hc.own ∧
      (s.hc.runState = .run → t.hc.runState = .standby ∧ t.runOutput = false) ∧
      (s.hc.runState ≠ .run → t.hc.runState = s.hc.runState))

/-! ### Console commands -/

/-- PAUSE, UNPAUSE, HOLD and UNHOLD (R93, R104), taken from a console in any run state from JOINING on. R85, R173, R175: a
cause that a console PAUSE raises is announced by a HALT with the rank of the view's current cause, where the transmit queue
has a place for it and no RELEASE of the cause waits. R86, R173, R175: a cause that an UNPAUSE or UNHOLD takes out is announced
by its RELEASE, where the queue has places and no HALT of the cause waits. -/
def Obligations.OperatorCommands : Prop :=
  (∀ (s₀ : State) (o : Origin) (target : Byte),
    let s := s₀.deliverDue
    Commands s o target →
    (∃ t, exec (.pause o target) s₀ = .next t ∧ t.hc.own = addCause s.hc.own .opPause ∧ t.halted = true ∧
      t.runOutput = false) ∧
    (∃ t, exec (.unpause o target) s₀ = .next t ∧ t.hc.own = dropCause s.hc.own .opPause) ∧
    (∃ t, exec (.hold o target) s₀ = .next t ∧ t.hc.own = addCause s.hc.own .opHold ∧ t.halted = s.halted) ∧
    ∃ t, exec (.unhold o target) s₀ = .next t ∧ t.hc.own = dropCause s.hc.own .opHold) ∧
  (∀ (s₀ : State) (o : Origin) (target : Byte),
    let s := s₀.deliverDue
    Commands s o target → s.lp.size ≤ 14 →
    (s.owns .opPause = true → (∀ q ∈ s.lp.waiting, (Frame.release 14).partner q.frame = false) →
      ∃ t, exec (.unpause o target) s₀ = .next t ∧ t.waitsFrame (.release 14)) ∧
    (s.owns .opHold = true → (∀ q ∈ s.lp.waiting, (Frame.release 17).partner q.frame = false) →
      ∃ t, exec (.unhold o target) s₀ = .next t ∧ t.waitsFrame (.release 17))) ∧
  ∀ (s₀ : State) (o : Origin) (target : Byte),
    let s := s₀.deliverDue
    Commands s o target → s.owns .opPause = false →
    s.lp.size < 16 → (∀ q ∈ s.lp.waiting, q.frame ≠ .release 14) →
      ∃ t, exec (.pause o target) s₀ = .next t ∧ t.waitsFrame (.halt 14 2 (byte (currentRank t.view)))

/-- CLEAR_TRAIN (R28, R146, R163, R191, R199): under an H cause with the chain standing the train is emptied, the eye set
clear and every offset made absent, and at the ENTRY each OPEN entry is credited at its cap and the gate closed; otherwise it
is ignored and changes nothing. An ARCH station queues its FLOW, with the claim and the newest ticket as the action leaves them,
whether or not they changed (R68); that no other role does is the model's reading (log entry 8). -/
def Obligations.ClearTrainCommand : Prop :=
  ∀ (s₀ : State) (o : Origin) (target : Byte),
    let s := s₀.deliverDue
    Commands s o target →
    (s.grade = some .halt → s.pc.v = 0 → ∃ t, exec (.clearTrain o target) s₀ = .next t ∧
      t.ts.train = [] ∧ t.ts.phase = .clear ∧ t.ts.blockMark = none ∧ t.ts.lastClear = none ∧ t.ts.syncFailed = false ∧
      t.inputs.eye = ⟨s.inputs.eye.pin, false, Pace.load 10⟩ ∧ (∀ r ∈ t.pt.peers, r.offset = none) ∧
      (s.role = .entry → t.inTunnel = 0 ∧
        t.su.credits = s.su.credits.map (fun e => if e.isOpen then { e with amount := e.cap, isOpen := false } else e) ∧
        (CallLaw s → t.ac.gate = .shut)) ∧
      (s.role = .arch → s.lp.size ≤ 14 → t.waitsFrame (.flow (byte t.fb.claim) t.fb.newest))) ∧
    (ClaimLaw s → s.grade ≠ some .halt ∨ s.pc.v ≠ 0 → exec (.clearTrain o target) s₀ = .next s)

/-! ### Frames of stations -/

/-- HALT and RELEASE of a peer (R84, R88, R89, R189): the cause the rank names joins or leaves the peer's set and nothing
else of any set changes; a HALT of grade H or P stops the conveyor run output; a rank outside 1 to 17 changes no set. A FLOW
at an ARCH station (R69) writes the claim and the newest ticket of its sender. R69, R71, R72, R73: after a FLOW or a BEACON no
spray stays DEFERRED that fits within the budget, and the station qualifies to shed no longer; a FLOW after which the station
does not qualify sheds nothing; one after which it does ends a normal purge, or sheds the OPEN spray of newest stamp, of equal
stamps the higher channel, alone where that suffices. After two sheds in one action see log entry 36. -/
def Obligations.PeerCausesAndClaims : Prop :=
  (∀ (s₀ : State) (o : Origin) (cause grade current : Byte),
    let s := s₀.deliverDue
    s.active = true → o ≠ s.ownOrigin → s.expects o = true →
    (∀ k : Cause, cause.toNat = k.rank →
      (∃ t, exec (.halt o cause grade current) s₀ = .next t ∧ t.hc.own = s.hc.own ∧
        t.pt.peers = peersWith o.toNat (fun r => { r.hears with causes := addCause r.causes k }) s.pt.peers ∧
        (k.grade ≠ .hold → t.halted = true ∧ t.runOutput = false)) ∧
      ∃ t, exec (.release o cause) s₀ = .next t ∧ t.hc.own = s.hc.own ∧
        t.pt.peers = peersWith o.toNat (fun r => { r.hears with causes := dropCause r.causes k }) s.pt.peers) ∧
    ((∀ k : Cause, cause.toNat ≠ k.rank) →
      (∃ t, exec (.halt o cause grade current) s₀ = .next t ∧ t.pt.peers = peersWith o.toNat Peer.hears s.pt.peers) ∧
      ∃ t, exec (.release o cause) s₀ = .next t ∧ t.pt.peers = peersWith o.toNat Peer.hears s.pt.peers)) ∧
  (∀ (s₀ : State) (o : Origin) (claim : Byte) (newest : Ticket),
    let s := s₀.deliverDue
    s.active = true → s.role = .arch → o ≠ s.ownOrigin →
    s.expects o = true → ∃ t, exec (.flow o claim newest) s₀ = .next t ∧
      t.pt.peers = peersWith o.toNat (fun r => { r.hears with claim := min claim.toNat 60, newest := newest }) s.pt.peers ∧
      (HaltLaw s → ChannelLaw s → ClaimLaw s →
        let heard := s.setPt t.pt
        (¬ ShedDue heard → ∀ (i : Nat) (ch : Channel), s.ss[i]? = some ch → ch.cfg.kind = .spray → ch.state = .opened →
          ∃ ch' ∈ t.ss[i]?, ch'.state = .opened) ∧
        (¬ ShedDue heard → s.ps.purge = .normal → t.ps.purge = .normal) ∧
        (ShedDue heard → s.ps.purge = .normal → t.ps.purge ≠ .normal) ∧
        ∀ (i : Nat) (ch : Channel), s.ss[i]? = some ch → ch.cfg.kind = .spray → ch.state = .opened → ShedDue heard →
          (∀ (j : Nat) (x : Channel), s.ss[j]? = some x → j ≠ i → x.cfg.kind = .spray → x.state = .opened →
            ticketOlder (sprayStamp j s.ts.train) (sprayStamp i s.ts.train) = true ∨
              (sprayStamp j s.ts.train = sprayStamp i s.ts.train ∧ j < i)) →
          heard.totalClaim ≤ s.cl.constants.budget + ch.cfg.demand →
            (∃ ch' ∈ t.ss[i]?, ch'.state = .deferred) ∧
            ∀ (j : Nat) (x : Channel), s.ss[j]? = some x → j ≠ i → x.cfg.kind = .spray → x.state = .opened →
              ∃ x' ∈ t.ss[j]?, x'.state = .opened)) ∧
  ∀ (c : Instr) (s₀ t : State) (o : Origin),
    let s := s₀.deliverDue
    (∃ w k, c = .flow o w k) ∨ (∃ r x n p w k d i, c = .beacon o r x n p w k d i) →
    s.active = true → s.role = .arch → o ≠ s.ownOrigin → s.expects o = true →
    HaltLaw s → ChannelLaw s → ClaimLaw s → exec c s₀ = .next t →
      ¬ ShedDue t ∧ ∀ ch ∈ t.ss, ch.cfg.kind = .spray → ch.state = .deferred →
        t.cl.constants.budget < t.totalClaim + ch.cfg.demand

/-- ADMIT from the ENTRY (R18, R19, R20): a car is placed as the newest; a full train raises OVERFLOW, a newest car at the
datum CLOSING; ticket 0 and a ticket already held change nothing. LENGTH from the ENTRY (R21) and DEPART from the EXIT (R26,
R145): an absent length is filled in within 1 to Lmax; a DEPART takes the car out and is remembered, and at the ENTRY settles
its credit entry. -/
def Obligations.AdmitLengthAndDepart : Prop :=
  (∀ (s₀ : State) (o : Origin) (k : Ticket) (delta : Byte) (services : ServiceSet) (intensity lane : Byte),
    let s := s₀.deliverDue
    TrainLaw s → FromStation s o .entry →
      (k = 0 ∨ s.holds k = true → ∃ t, exec (.admitCar o k delta services intensity lane) s₀ = .next t ∧
        ticketsOf t.ts.train = ticketsOf s.ts.train ∧ t.hc.own = s.hc.own) ∧
      (k ≠ 0 → s.holds k = false → s.ts.train.length = 24 → ∃ t, exec (.admitCar o k delta services intensity lane) s₀ = .next t ∧
        t.owns .overflow = true ∧ t.holds k = false) ∧
      (k ≠ 0 → s.holds k = false → s.ts.train.length < 24 → (∃ c ∈ s.ts.train, c.front s.pc.p = 0) →
        ∃ t, exec (.admitCar o k delta services intensity lane) s₀ = .next t ∧ t.owns .closing = true ∧ t.holds k = false) ∧
      (k ≠ 0 → s.holds k = false → s.ts.train.length < 24 → (∀ c ∈ s.ts.train, 0 < c.front s.pc.p) →
        s.ss = [] ∨ (s.halted = true ∧ ∀ ch ∈ s.ss, ch.state = .suspended) →
          ∃ t, exec (.admitCar o k delta services intensity lane) s₀ = .next t ∧
            ticketsOf t.ts.train = ticketsOf s.ts.train ++ [k] ∧
            ∀ c ∈ t.ts.train, c.ticket = k → c.services = services ∧ c.intensity = min 4 (max 1 intensity.toNat) ∧
              c.length = none ∧ c.synced = false ∧ c.front t.pc.p ≤ delta.toNat)) ∧
  ((∀ (s₀ : State) (o : Origin) (k : Ticket) (len : Half),
    let s := s₀.deliverDue
    TrainLaw s → FromStation s o .entry →
    ∃ t, exec (.length o k len) s₀ = .next t ∧
      ∀ c ∈ t.ts.train, ∃ c₀ ∈ s.ts.train, c₀.ticket = c.ticket ∧
        c.length = if c.ticket = k ∧ c₀.length = none ∧ 1 ≤ len.toNat ∧ len.toNat ≤ s.cl.constants.lmax then some len.toNat
          else c₀.length) ∧
  ∀ (s₀ : State) (o : Origin) (k : Ticket) (lost : Byte),
    let s := s₀.deliverDue
    FromStation s o .exit →
    ∃ t, exec (.depart o k lost) s₀ = .next t ∧ t.holds k = false ∧ k ∈ t.ts.recent ∧
      (t.ts.recent.length ≤ 4 ∨ s.ts.recent.length > 4) ∧
      (s.role = .entry → SalesLaw s.su → ∀ e ∈ s.su.credits,
        (e.ticket ≠ k → e ∈ t.su.credits) ∧
        (e.ticket = k → lost ≠ 0 → { e with amount := e.cap, isOpen := false } ∈ t.su.credits) ∧
        (e.ticket = k → lost = 0 → e.amount ≠ 0 → { e with isOpen := false } ∈ t.su.credits) ∧
        (e.ticket = k → lost = 0 → e.amount = 0 → ∀ f ∈ t.su.credits, f.ticket ≠ k)))

/-- QUOTE, PAID and VOID at a station (R170, R189): only their sender's record changes; and in JOINING the frame by which
every expected station has been heard begins SYNCING (R193, R194). OWN_ORIGIN_FRAME, and any frame under this station's own
origin (R171): MISMATCH is raised and the frame is not delivered. That a frame is heard before its owner takes it is the
model's order (log entry 10). -/
def Obligations.HeardAndOwnOriginFrames : Prop :=
  (∀ (s₀ : State) (o : Origin),
    let s := s₀.deliverDue
    s.active = true → o ≠ s.ownOrigin → s.expects o = true →
    (∀ (l r : Byte) (n : SaleNo) (a b d : Half), ∃ t, exec (.quote o l n r a b d) s₀ = .next t ∧
      t.pt.peers = peersWith o.toNat Peer.hears s.pt.peers ∧ t.hc.own = s.hc.own ∧ t.su = s.su ∧
      (s.hc.runState = .joining → (∀ x ∈ s.pt.peers, x.station ≠ o.toNat → x.heard = true) →
        t.hc.runState = .syncing ∧ t.pt.join = Pace.idle ∧ t.ts.sync = Pace.load 2000 ∧ t.ts.received = 0 ∧
          t.ts.keeper = s.keeperToAsk)) ∧
    (∀ (l : Byte) (n : SaleNo) (k : Ticket) (a : Half), ∃ t, exec (.paid o l n k a) s₀ = .next t ∧
      t.pt.peers = peersWith o.toNat Peer.hears s.pt.peers ∧ t.hc.own = s.hc.own ∧ t.su = s.su) ∧
    ∀ (l r : Byte) (n : SaleNo) (a : Half), ∃ t, exec (.void o l n r a) s₀ = .next t ∧
      t.pt.peers = peersWith o.toNat Peer.hears s.pt.peers ∧ t.hc.own = s.hc.own ∧ t.su = s.su) ∧
  ∀ s₀ : State,
    let s := s₀.deliverDue
    s.active = true →
    (∃ t, exec .ownOriginFrame s₀ = .next t ∧ t.hc.own = addCause s.hc.own .mismatch ∧ t.pt = s.pt ∧ t.halted = true) ∧
    ∀ c : Instr, c.origin = some s.ownOrigin → exec c s₀ = exec .ownOriginFrame s₀

/-- Frames that are not taken. R168, R170: a frame of an origin that is not configured changes nothing, and no frame does in
LOADING or CONFIG_FAULT but a RESTART that R205 accepts. R20, R21, R26, R69, R88, R100, R129, R144, R187, R189, R195, R197: a
frame that its owner does not welcome does what a frame without a taker does: from a kiosk or a console nothing, from an expected
station no more than to hear it. So does a COMMAND of a code outside the eight. A QUOTE stands for the frame without a taker (log
entry 29). -/
def Obligations.UnwelcomeFrames : Prop :=
  (∀ (c : Instr) (s₀ : State) (o : Origin),
    let s := s₀.deliverDue
    c.origin = some o →
      (s.active = true → Unwelcome s c → exec c s₀ = exec (heardOnly o) s₀) ∧
      (s.active = true → Unconfigured s o → exec c s₀ = .next s) ∧
      (s.active = false → (∀ g, c = .restart o g → s.inReset = true ∨ s.hc.runState = .loading ∨ o.toNat < 17 ∨ 30 < o.toNat ∨
        (g ≠ 0 ∧ ∀ f, s.cl.faultOrigin = some f → g.toNat ≠ f.toNat)) → exec c s₀ = .next s)) ∧
  (∀ (s₀ : State) (o : Origin),
    let s := s₀.deliverDue
    s.active = true → o ≠ s.ownOrigin → ClaimLaw s →
      (s.expects o = false → exec (heardOnly o) s₀ = .next s) ∧
      (s.expects o = true → s.hc.runState ≠ .joining →
        exec (heardOnly o) s₀ = .next (s.setPt { s.pt with peers := peersWith o.toNat Peer.hears s.pt.peers }))) ∧
  ∀ (o : Origin) (code target : Byte), code = 0 ∨ 8 < code.toNat → (Frame.command code target).asCommand o = heardOnly o

/-- BEACON of a peer (R187, R188, R191, R192): the record is written from the frame; a differing digest or role raises
MISMATCH, a skew beyond the limit SKEW; an absent offset is taken from a peer in READY, RUN or STANDBY by a station in SYNCING,
READY, RUN or STANDBY, and by none that stays in JOINING, and a present one stands. R199: at a beacon of a keeper the sync-failed
flag is cleared where the tunnel is found empty, and not else. -/
def Obligations.BeaconWritesRecord : Prop :=
  ∀ (s₀ : State) (o : Origin) (roleState : Byte) (causes : BitVec 24) (n : Byte) (p : Pulse) (claim : Byte) (newest : Ticket)
      (digest : Half) (inTunnel : Byte),
    let s := s₀.deliverDue
    s.active = true → o ≠ s.ownOrigin → s.expects o = true →
    ∃ t, exec (.beacon o roleState causes n p claim newest digest inTunnel) s₀ = .next t ∧
      t.pt.peers.map (fun r => { r with offset := none }) =
        (peersWith o.toNat (fun r => { r.hears with
          reported := some (beaconState roleState), causes := causes.setWidth 17, trainCount := some (min n.toNat 24),
          lastP := some p, claim := min claim.toNat 60, newest := newest }) s.pt.peers).map (fun r => { r with offset := none }) ∧
      (s.fromRole o .drive = true ∨ s.fromRole o .exit = true →
        (t.ts.syncFailed = true ↔ s.ts.syncFailed = true ∧ ¬ TunnelEmpty t)) ∧
      ∀ r, s.peer o.toNat = some r →
        (∀ x, r.offset = some x → (beaconState roleState).settled = true →
          (t.peer o.toNat).map (fun r' => r'.offset) = some (some x)) ∧
        (beaconState roleState ≠ .configFault → digest ≠ s.cl.constants.digest ∨ beaconRole roleState ≠ r.role →
          t.owns .mismatch = true) ∧
        (∀ x, r.offset = some x → (beaconState roleState).settled = true →
          s.cl.constants.skewLimit < (s.pc.p - p - x).toInt.natAbs → t.owns .skew = true) ∧
        (∀ x, r.offset = some x → (beaconState roleState).settled = true →
          (s.pc.p - p - x).toInt.natAbs ≤ s.cl.constants.skewLimit → t.owns .skew = s.owns .skew) ∧
        (r.offset = none → (beaconState roleState).settled = true → s.hc.runState = .syncing ∨ s.hc.runState.settled = true →
          ∃ r' ∈ t.pt.peers, r'.station = o.toNat ∧ r'.offset = some (s.pc.p - p)) ∧
        (r.offset = none → s.hc.runState = .joining → (∃ x ∈ s.pt.peers, x.station ≠ o.toNat ∧ x.heard = false) →
          t.hc.runState = .joining ∧ (t.peer o.toNat).map (fun r' => r'.offset) = some none) ∧
        ((beaconState roleState).settled = false → ∀ r' ∈ t.pt.peers, r'.station = o.toNat → r'.offset = none)

/-! ### Sales -/

/-- SELECT refused (R130, R132): the checks before any price, in their order, and the refusals of the price; a refusal makes
no sale and leaves the counters and the credit table as they were. -/
def Obligations.SelectRefusals : Prop :=
  ∀ (s₀ : State) (o : Origin) (l : Lane) (plan addOns tier : Byte) (credit : Ticket),
    let s := s₀.deliverDue
    FromKiosk s o l → s.lp.size ≤ 14 →
    let pr := s.su.catalogue.price plan.toNat addOns tier.toNat credit s.su.credits
    let same := fun t : State => t.su.lastSale = s.su.lastSale ∧ t.su.lastTicket = s.su.lastTicket ∧
      t.su.credits = s.su.credits ∧ t.openSale l = s.openSale l
    (s.hc.runState.sells = false → ∃ t, exec (.select o (laneCode l) plan addOns tier credit) s₀ = .next t ∧ same t ∧
      t.waitsFrame (.quote (laneCode l) 0 3 0 0 0)) ∧
    (s.hc.runState.sells = true → 4 ≤ (s.su.lane l).queue.length →
      ∃ t, exec (.select o (laneCode l) plan addOns tier credit) s₀ = .next t ∧ same t ∧
        t.waitsFrame (.quote (laneCode l) 0 4 0 0 0)) ∧
    (∀ x, s.hc.runState.sells = true → (s.su.lane l).queue.length < 4 → s.openSale l = some x → 0 < x.tendered →
      ∃ t, exec (.select o (laneCode l) plan addOns tier credit) s₀ = .next t ∧ same t ∧
        t.waitsFrame (.quote (laneCode l) x.number 5 0 0 0)) ∧
    (s.hc.runState.sells = true → (s.su.lane l).queue.length < 4 → s.openSale l = none → pr.result ≠ .quoted →
      ∃ t, exec (.select o (laneCode l) plan addOns tier credit) s₀ = .next t ∧ same t ∧
        t.waitsFrame (.quote (laneCode l) 0 pr.result.code (half pr.subtotal) (half pr.applied) (half pr.due)))

/-- SELECT (R117, R131, R132, R134, R139): a PRICED sale of the lane without tender is voided first, REPLACED with nothing to
refund, its credit restored as R139 says; then a QUOTED price makes the lane's PRICED sale under the next sale number, with its
timeout, its QUOTE and its draw on the credit table, a due of 0 paid at once; and a refused price leaves the lane without a
sale. The premise ProgressLaw, which every step keeps, shuts out an ENTRY whose cars hold service progress. -/
def Obligations.SelectMakesSale : Prop :=
  ∀ (s₀ : State) (o : Origin) (l : Lane) (plan addOns tier : Byte) (credit : Ticket),
    let s := s₀.deliverDue
    ProgressLaw s → FromKiosk s o l → s.hc.runState.sells = true → (s.su.lane l).queue.length < 4 →
    (∀ x, s.openSale l = some x → x.tendered = 0) →
    let u := match s.openSale l with
      | some x => (s.su.setLane l { s.su.lane l with openSale := none, timeout := Pace.idle }).restore x
      | none => s.su
    ∀ pr : Price, u.catalogue.price plan.toNat addOns tier.toNat credit u.credits = pr →
      ∃ t, exec (.select o (laneCode l) plan addOns tier credit) s₀ = .next t ∧
        (∀ x, s.openSale l = some x → s.lp.size ≤ 13 → t.waitsFrame (.void (laneCode l) x.number 3 0)) ∧
        (pr.result ≠ .quoted → t.openSale l = none ∧ t.su.lastSale = s.su.lastSale ∧ t.su.lastTicket = s.su.lastTicket ∧
          t.su.credits = u.credits ∧ (t.su.lane l).timeout = (u.lane l).timeout ∧ (s.lp.size ≤ 13 →
            t.waitsFrame (.quote (laneCode l) 0 pr.result.code (half pr.subtotal) (half pr.applied) (half pr.due)))) ∧
        (pr.result = .quoted → t.su.lastSale = nextSale s.su.lastSale ∧
          (s.lp.size ≤ 13 → t.waitsFrame
            (.quote (laneCode l) (nextSale s.su.lastSale) 0 (half pr.subtotal) (half pr.applied) (half pr.due)))) ∧
        (pr.result = .quoted → pr.due ≠ 0 → (t.su.lane l).timeout = Pace.load s.cl.constants.saleTimeout ∧
          (credit = 0 → t.su.credits = u.credits) ∧
          (credit ≠ 0 → ∀ e, creditOf credit u.credits = some e → (u.credits.map (fun e => e.ticket)).Nodup →
            creditOf credit t.su.credits =
              if e.amount = pr.applied then none else some { e with amount := e.amount - pr.applied }) ∧
          ∃ x, t.openSale l = some x ∧ x.number = nextSale s.su.lastSale ∧ x.state = .priced ∧ x.tendered = 0 ∧
            x.subtotal = pr.subtotal ∧ x.net = pr.net ∧ x.applied = pr.applied ∧ x.due = pr.due ∧
            x.services = pr.services ∧ x.intensity = pr.intensity ∧ x.creditTicket = credit) ∧
        (pr.result = .quoted → pr.due = 0 → t.openSale l = none ∧ (t.su.lane l).timeout = Pace.idle ∧
          (t.su.lane l).queue.map (fun x => (x.number, x.ticket)) =
            (s.su.lane l).queue.map (fun x => (x.number, x.ticket)) ++ [(nextSale s.su.lastSale, t.su.lastTicket)])

/-- TENDER (R133, R134, R136): a tender below the due is added and reloads the timeout; one that reaches it makes the sale
PAID, with its ticket and its change, at the tail of the lane queue; a tender for any other sale number is answered VOID
LATE. -/
def Obligations.TenderPays : Prop :=
  ∀ (s₀ : State) (o : Origin) (l : Lane) (sale : SaleNo) (amount : Half),
    let s := s₀.deliverDue
    FromKiosk s o l →
    (∀ x, s.openSale l = some x → x.number = sale → min (x.tendered + amount.toNat) 65535 < x.due →
      ∃ t, exec (.tender o (laneCode l) sale amount) s₀ = .next t ∧
        t.openSale l = some { x with tendered := min (x.tendered + amount.toNat) 65535 } ∧
        (t.su.lane l).timeout = Pace.load s.cl.constants.saleTimeout ∧ t.su.credits = s.su.credits) ∧
    (∀ x, s.openSale l = some x → x.number = sale → x.due ≤ min (x.tendered + amount.toNat) 65535 →
      ∃ t, exec (.tender o (laneCode l) sale amount) s₀ = .next t ∧ t.openSale l = none ∧
        (t.su.lane l).timeout = Pace.idle ∧ t.su.lastTicket = s.su.issue.1 ∧
        (t.su.lane l).queue.map (fun y => (y.number, y.ticket, y.change)) =
          (s.su.lane l).queue.map (fun y => (y.number, y.ticket, y.change)) ++
            [(sale, s.su.issue.1, min (x.tendered + amount.toNat) 65535 - x.due)] ∧
        (s.hc.runState ≠ .standby → s.lp.size < 16 →
          t.waitsFrame (.paid (laneCode l) sale s.su.issue.1 (half (min (x.tendered + amount.toNat) 65535 - x.due))))) ∧
    ((∀ x, s.openSale l = some x → x.number ≠ sale) →
      ∃ t, exec (.tender o (laneCode l) sale amount) s₀ = .next t ∧ t.su = s.su ∧
        (s.lp.size < 16 → t.waitsFrame (.void (laneCode l) sale 5 (half amount.toNat))))

/-- CANCEL (R138, R139) and SALE_TIMEOUT_EXPIRY (R137): the sale is voided with its tender returned and its credit restored:
to a REDEEMABLE entry up to its cap, to no entry that is OPEN or whose ticket stands in a lane queue, and to an entry made
afresh where the table holds none; a CALLED sale and an unknown one are TOO_LATE. Of two PAID sales of one number the nearer to
the head is cancelled (log entry 39). An expiry command is taken when its counter has run out (R8). -/
def Obligations.CancelAndTimeout : Prop :=
  let restored := fun (s : State) (x : Sale) (t : State) =>
    (x.creditTicket = 0 → t.su.credits = s.su.credits) ∧
    (∀ e, creditOf x.creditTicket s.su.credits = some e → x.creditTicket ≠ 0 → e.isOpen = false →
      s.su.queued x.creditTicket = false →
        creditOf x.creditTicket t.su.credits = some { e with amount := min (e.amount + x.applied) e.cap }) ∧
    (∀ e, creditOf x.creditTicket s.su.credits = some e → e.isOpen = true → t.su.credits = s.su.credits) ∧
    (s.su.queued x.creditTicket = true → x.ticket ≠ x.creditTicket → t.su.credits = s.su.credits) ∧
    (creditOf x.creditTicket s.su.credits = none → x.creditTicket ≠ 0 → s.su.queued x.creditTicket = false →
      s.su.credits.length < 32 → t.su.credits = s.su.credits ++ [⟨x.creditTicket, x.creditCap, 0, x.applied, false⟩])
  (∀ (s : State) (l : Lane), s.active = true → s.role = .entry → s.lp.size < 16 →
    ∀ x, s.openSale l = some x → (s.su.lane l).timeout.ranOut = true →
    ∃ t, exec (.saleTimeoutExpiry l) s = .next t ∧ t.openSale l = none ∧ (t.su.lane l).timeout = Pace.idle ∧
      t.waitsFrame (.void (laneCode l) x.number 2 (half x.tendered)) ∧ restored s x t) ∧
  ∀ (s₀ : State) (l : Lane) (o : Origin),
    let s := s₀.deliverDue
    FromKiosk s o l → s.lp.size < 16 →
    (∀ x, s.openSale l = some x → ∃ t, exec (.cancel o (laneCode l) x.number) s₀ = .next t ∧ t.openSale l = none ∧
      (t.su.lane l).timeout = Pace.idle ∧ t.waitsFrame (.void (laneCode l) x.number 1 (half x.tendered)) ∧ restored s x t) ∧
    (∀ n x, (∀ y, s.openSale l = some y → y.number ≠ n) → findPaid n (s.su.lane l).queue = some x →
      ∃ t, exec (.cancel o (laneCode l) n) s₀ = .next t ∧
        (∀ xs ys, (s.su.lane l).queue = xs ++ x :: ys → (∀ y ∈ xs, y.number ≠ n ∨ y.state ≠ .paid) →
          (t.su.lane l).queue.map (fun y => (y.number, y.ticket)) = (xs ++ ys).map (fun y => (y.number, y.ticket))) ∧
        t.waitsFrame (.void (laneCode l) n 1 (half (x.tendered - x.change))) ∧ restored s x t) ∧
    ∀ n, (∀ y, s.openSale l = some y → y.number ≠ n) → findPaid n (s.su.lane l).queue = none →
      ∃ t, exec (.cancel o (laneCode l) n) s₀ = .next t ∧ t.su = s.su ∧ t.waitsFrame (.quote (laneCode l) n 6 0 0 0)

/-! ### Beacons, join and sync -/

/-- BEACON_PERIOD_EXPIRY (R185, R186) and FAULT_BEACON_PERIOD (R205): the counter is loaded again and a BEACON waits with
the values of the moment. JOIN_TIMEOUT (R193, R194), SYNC_TIMEOUT and SYNC_END (R190, R198): the ways from JOINING to
SYNCING, where the keeper is asked, and on to READY. An expiry command is taken when its counter has run out (R8). -/
def Obligations.BeaconsJoinAndSyncEnd : Prop :=
  ((∀ s : State, s.active = true → s.pt.beacon.ranOut = true →
    ∃ t, exec .beaconPeriodExpiry s = .next t ∧ t.pt.beacon = Pace.load s.cl.constants.beaconPeriod ∧ t.hc.own = s.hc.own ∧
      (s.role ≠ .arch ∨ s.halted = true → s.lp.size ≤ 14 → t.waitsFrame s.liveBeacon)) ∧
  ∀ s : State, s.inReset = false → s.hc.runState = .configFault → s.cl.faultBeacon.ranOut = true →
    ∃ t, exec .faultBeaconPeriod s = .next t ∧ t.cl.faultBeacon = Pace.load 100 ∧ t.hc = s.hc ∧
      (s.lp.size < 16 → t.waitsFrame s.faultBeacon)) ∧
  ((∀ s : State, s.active = true → s.pt.join.ranOut = true → s.hc.runState = .joining →
    ∃ t, exec .joinTimeout s = .next t ∧ t.hc.runState = .syncing ∧ t.hc.own = addCause s.hc.own .silent ∧
      t.pt.join = Pace.idle ∧ t.ts.sync = Pace.load 2000 ∧ t.ts.received = 0 ∧ t.ts.keeper = s.keeperToAsk ∧
      (s.halted = true → s.lp.size ≤ 12 → t.waitsFrame (.syncReq (byte s.keeperToAsk)))) ∧
  (∀ s : State, s.active = true → s.ts.sync.ranOut = true → s.hc.runState = .syncing →
    ∃ t, exec .syncTimeout s = .next t ∧ t.hc.runState = .ready ∧ t.ts.sync = Pace.idle ∧
      (t.ts.syncFailed = true ∨ t.emptyTunnel = true) ∧
      t.hc.own = if s.anySilent then addCause s.hc.own .silent else s.hc.own) ∧
  ∀ (s₀ : State) (o : Origin) (joiner count : Byte),
    let s := s₀.deliverDue
    s.active = true → s.hc.runState = .syncing → o ≠ s.ownOrigin →
    s.expects o = true → o.toNat = s.ts.keeper → joiner.toNat = s.cl.constants.station →
      ∃ t, exec (.syncEnd o joiner count) s₀ = .next t ∧ t.hc.runState = .ready ∧ t.ts.sync = Pace.idle ∧
        (s.ts.received = count.toNat → s.ts.syncFailed = false → t.ts.syncFailed = false) ∧
        (s.ts.received ≠ count.toNat → t.ts.syncFailed = true ∨ t.emptyTunnel = true))

/-- SYNC_REQ and SYNC_ANSWER_STEP (R195, R196): a keeper enters the request, from JOINING on, where the frame that ends
JOINING queues its own SYNC_REQ first (R193, R194; log entry 10), and with four free places serves the first answer of its
list with its next car, oldest ticket first, or with SYNC_END; and so once at each tick that finds an answer in the list: such a
TICK makes the step due, nothing else does, and the step, or the next command before which it comes, ends that. That the step of
a tick stands apart from the TICK, under a mark of the model's own, is the model's choice (log entry 34). SYNC_CAR (R197): each
one taken is counted; ticket 0, a ticket held and one recently departed are not placed; any other, where R19 permits, is placed
behind the older tickets and before the newer ones, with its front clipped between its neighbours' and its length where that
lies from 1 to Lmax. -/
def Obligations.KeeperAndJoiner : Prop :=
  ((∀ s₀ : State,
    let s := s₀.deliverDue
    s.inReset = false → ∃ t, exec .tick s₀ = .next t ∧ t.ts.answerDue = !s.ts.answers.isEmpty) ∧
    (∀ s₀ : State, s₀.deliverDue.ts.answerDue = false) ∧
    (∀ (c : Instr) (s₀ t : State), exec c s₀ = .next t → c ≠ .tick → t.ts.answerDue = true →
      (s₀.before c).ts.answerDue = true) ∧
    ∀ s : State, s.active = true → s.keeper = true → s.ts.answerDue = true →
    (∀ (a : Answer) (rest : List Answer), s.ts.answers = a :: rest → s.lp.size ≤ 12 →
      ∃ t, exec .syncAnswerStep s = .next t ∧ t.ts.answerDue = false ∧
        (∀ c, nextToSend a.last s.ts.train = some c →
          t.ts.answers = { a with last := c.ticket, count := a.count + 1 } :: rest ∧ t.waitsFrame (.syncCar (byte a.joiner)
            c.ticket (half (c.front s.pc.p)) (half (c.length.getD 0)) c.services (byte c.intensity))) ∧
        (nextToSend a.last s.ts.train = none →
          t.ts.answers = rest ∧ t.waitsFrame (.syncEnd (byte a.joiner) (byte a.count)))) ∧
    (s.ts.answers = [] ∨ 12 < s.lp.size → exec .syncAnswerStep s = .next (s.setTs { s.ts with answerDue := false }))) ∧
  (∀ s₀ : State,
    let s := s₀.deliverDue
    s.active = true → s.keeper = true →
    ∀ (o : Origin) (keeper : Byte), o ≠ s.ownOrigin → s.expects o = true → keeper.toNat = s.cl.constants.station →
      let queued := s.lp.size +
        (if s.hc.runState = .joining ∧ (∀ r ∈ s.pt.peers, r.station ≠ o.toNat → r.heard = true) then 1 else 0)
        ∃ t, exec (.syncReq o keeper) s₀ = .next t ∧
          (12 < queued → t.ts.answers = enterAnswer o.toNat s.ts.answers) ∧
          (s.ts.answers = [] → queued ≤ 12 → s.ts.train = [] →
            t.ts.answers = [] ∧ t.waitsFrame (.syncEnd (byte o.toNat) 0)) ∧
          (s.ts.answers = [] → queued ≤ 12 → ∀ c, nextToSend 0 s.ts.train = some c →
            t.ts.answers = [⟨o.toNat, c.ticket, 1⟩])) ∧
  ∀ (s₀ : State) (o : Origin) (joiner : Byte) (k : Ticket) (front len : Half) (services : ServiceSet) (intensity : Byte),
    let s := s₀.deliverDue
    TrainLaw s → s.active = true → s.hc.runState = .syncing → o ≠ s.ownOrigin → s.expects o = true →
    o.toNat = s.ts.keeper → joiner.toNat = s.cl.constants.station →
      ∃ t, exec (.syncCar o joiner k front len services intensity) s₀ = .next t ∧ t.ts.received = s.ts.received + 1 ∧
        (k = 0 ∨ s.holds k = true ∨ k ∈ s.ts.recent → ticketsOf t.ts.train = ticketsOf s.ts.train) ∧
        (k ≠ 0 → k ∉ s.ts.recent → s.ts.train = [] → s.role ≠ .exit →
          s.ss = [] ∨ (s.halted = true ∧ ∀ ch ∈ s.ss, ch.state = .suspended) →
          ∃ c, t.ts.train.map Car.core = [c] ∧ c = (k, markAt s.pc.p front.toNat,
            (if 1 ≤ len.toNat ∧ len.toNat ≤ s.cl.constants.lmax then some len.toNat else none), services,
            min 4 (max 1 intensity.toNat), true)) ∧
        ∀ xs ys : List Car, s.ts.train = xs ++ ys → k ≠ 0 → k ∉ s.ts.recent → s.holds k = false → s.ts.train.length < 24 →
          (∀ c ∈ xs, ticketOlder c.ticket k = true) → (∀ c ∈ ys, ticketOlder k c.ticket = true) →
          s.ss = [] ∨ (s.halted = true ∧ ∀ ch ∈ s.ss, ch.state = .suspended) →
          let between := permittedInterval s.pc.p xs.length s.ts.train
          let placed := (max between.1 (min (front.toNat : Int) between.2)).toNat
          between.1 ≤ between.2 →
          s.role ≠ .exit ∨ s.cl.constants.eye = 0 ∨ placed ≤ s.cl.constants.eye + s.cl.constants.tolerance →
            t.ts.train.map Car.core = xs.map Car.core ++ (k, markAt s.pc.p placed,
              (if 1 ≤ len.toNat ∧ len.toNat ≤ s.cl.constants.lmax then some len.toNat else none), services,
              min 4 (max 1 intensity.toNat), true) :: ys.map Car.core

/-! ### Attempts of the line port -/

/-- SEND_ATTEMPT_START, ATTEMPT_SUCCEEDED, ATTEMPT_LOST, ATTEMPT_FAILED and DOMINANT_LINE_STRETCH (R177 to R182): the head
becomes the frame in hand, a success removes it and clears the failure count, a loss returns it ahead of its kind unless R174
or R175 removes it, a failure returns it so and is counted, and the eighth raises LINE_LOST. R166, R177: which of the three
ends an attempt comes to, by the first bit read that differs from the bit sent. That a failed frame returns before LINE_LOST is
raised is the model's order (log entry 15), and that a stuff bit after the last check bit is not compared its choice (log
entry 41). -/
def Obligations.AttemptOutcomes : Prop :=
  (∀ (o : Origin) (f : Frame), attemptEnd o f (sentBits o f) = some .succeeded ∧
    ∀ (before after more : List Bool) (b : Bool), attemptBits o f = before ++ b :: after →
      attemptEnd o f (before ++ (!b) :: more) =
        some (if b = true ∧ before.length < arbitrationSpan o f then .lost else .failed)) ∧
  ∀ s₀ : State,
    let s := s₀.deliverDue
    (∀ (q : Queued) (qs : List Queued), s.inReset = false → s.hc.runState ≠ .loading →
      (s.hc.runState = .configFault → s.cl.faultOrigin ≠ none) → s.lp.inHand = none →
      s.lp.waiting = q :: qs → ∃ t f, exec .sendAttemptStart s₀ = .next t ∧ t.lp.inHand = some f ∧ t.lp.waiting = qs ∧
        (q.kind ≠ 18 → f = q) ∧ (q.kind = 18 → f.frame = s.beaconFrame)) ∧
    (∀ f : Queued, s.lp.inHand = some f →
      let returns := (f.frame.single = true → s.lp.waits f.kind = false) ∧ ∀ q ∈ s.lp.waiting, f.frame.partner q.frame = false
      (∃ t, exec .attemptSucceeded s₀ = .next t ∧ t.lp.inHand = none ∧ t.lp.failures = 0 ∧ t.lp.waiting = s.lp.waiting) ∧
      (∃ t, exec .attemptLost s₀ = .next t ∧ t.lp.inHand = none ∧ t.lp.failures = s.lp.failures ∧
        (returns → t.lp.waiting = insertAhead f s.lp.waiting) ∧
        (f.frame.single = true → s.lp.waits f.kind = true → t.lp.waiting = s.lp.waiting)) ∧
      ∃ t, exec .attemptFailed s₀ = .next t ∧ t.lp.inHand = none ∧ t.lp.failures = min (s.lp.failures + 1) 255 ∧
        (s.active = true → s.lp.failures = 7 → t.owns .lineLost = true) ∧
        (s.lp.failures ≠ 7 → t.hc.own = s.hc.own) ∧
        (ClaimLaw s → returns → s.lp.failures ≠ 7 → t.lp.waiting = insertAhead f s.lp.waiting) ∧
        (ClaimLaw s → ProgressLaw s → returns → s.lp.size < 16 → f.frame ≠ .release 10 → s.ss = [] ∨ s.halted = true →
          t.waitsFrame f.frame)) ∧
    (s.inReset = false → s.hc.runState ≠ .loading → (s.hc.runState = .configFault → s.cl.faultOrigin ≠ none) →
      s.lp.inHand = none → s.lp.waiting ≠ [] →
      ∃ t, exec .dominantLineStretch s₀ = .next t ∧ t.lp.failures = min (s.lp.failures + 1) 255 ∧ t.lp.inHand = none ∧
        (s.active = true → s.lp.failures = 7 → t.owns .lineLost = true) ∧ (s.lp.failures ≠ 7 → t.hc.own = s.hc.own) ∧
        (ClaimLaw s → s.lp.failures ≠ 7 → t.lp.waiting = s.lp.waiting))
end

