-- ==== Sys2Proof/Laws/State.lean ====
section
/-! SUPPORT. One lemma per field of State for each operation that writes one block, so that no proof unfolds a record update. -/

namespace Sys2Proof.Machine

open Sys2Proof

/-! ### setInputs -/

@[simp] theorem State.setInputs_inReset (s : State) (x : Inputs) : (s.setInputs x).inReset = s.inReset := rfl
@[simp] theorem State.setInputs_inputs (s : State) (x : Inputs) : (s.setInputs x).inputs = x := rfl
@[simp] theorem State.setInputs_pc (s : State) (x : Inputs) : (s.setInputs x).pc = s.pc := rfl
@[simp] theorem State.setInputs_cl (s : State) (x : Inputs) : (s.setInputs x).cl = s.cl := rfl
@[simp] theorem State.setInputs_ts (s : State) (x : Inputs) : (s.setInputs x).ts = s.ts := rfl
@[simp] theorem State.setInputs_ss (s : State) (x : Inputs) : (s.setInputs x).ss = s.ss := rfl
@[simp] theorem State.setInputs_fb (s : State) (x : Inputs) : (s.setInputs x).fb = s.fb := rfl
@[simp] theorem State.setInputs_ps (s : State) (x : Inputs) : (s.setInputs x).ps = s.ps := rfl
@[simp] theorem State.setInputs_hc (s : State) (x : Inputs) : (s.setInputs x).hc = s.hc := rfl
@[simp] theorem State.setInputs_pt (s : State) (x : Inputs) : (s.setInputs x).pt = s.pt := rfl
@[simp] theorem State.setInputs_su (s : State) (x : Inputs) : (s.setInputs x).su = s.su := rfl
@[simp] theorem State.setInputs_ac (s : State) (x : Inputs) : (s.setInputs x).ac = s.ac := rfl
@[simp] theorem State.setInputs_lp (s : State) (x : Inputs) : (s.setInputs x).lp = s.lp := rfl
@[simp] theorem State.setInputs_pending (s : State) (x : Inputs) : (s.setInputs x).pending = s.pending := rfl
@[simp] theorem State.setInputs_self (s : State) : s.setInputs s.inputs = s := rfl
@[simp] theorem State.setInputs_setInputs_last (s : State) (x y : Inputs) : (s.setInputs x).setInputs y = s.setInputs y := rfl

/-! ### setPc -/

@[simp] theorem State.setPc_inReset (s : State) (x : PulseCounter) : (s.setPc x).inReset = s.inReset := rfl
@[simp] theorem State.setPc_inputs (s : State) (x : PulseCounter) : (s.setPc x).inputs = s.inputs := rfl
@[simp] theorem State.setPc_pc (s : State) (x : PulseCounter) : (s.setPc x).pc = x := rfl
@[simp] theorem State.setPc_cl (s : State) (x : PulseCounter) : (s.setPc x).cl = s.cl := rfl
@[simp] theorem State.setPc_ts (s : State) (x : PulseCounter) : (s.setPc x).ts = s.ts := rfl
@[simp] theorem State.setPc_ss (s : State) (x : PulseCounter) : (s.setPc x).ss = s.ss := rfl
@[simp] theorem State.setPc_fb (s : State) (x : PulseCounter) : (s.setPc x).fb = s.fb := rfl
@[simp] theorem State.setPc_ps (s : State) (x : PulseCounter) : (s.setPc x).ps = s.ps := rfl
@[simp] theorem State.setPc_hc (s : State) (x : PulseCounter) : (s.setPc x).hc = s.hc := rfl
@[simp] theorem State.setPc_pt (s : State) (x : PulseCounter) : (s.setPc x).pt = s.pt := rfl
@[simp] theorem State.setPc_su (s : State) (x : PulseCounter) : (s.setPc x).su = s.su := rfl
@[simp] theorem State.setPc_ac (s : State) (x : PulseCounter) : (s.setPc x).ac = s.ac := rfl
@[simp] theorem State.setPc_lp (s : State) (x : PulseCounter) : (s.setPc x).lp = s.lp := rfl
@[simp] theorem State.setPc_pending (s : State) (x : PulseCounter) : (s.setPc x).pending = s.pending := rfl
@[simp] theorem State.setPc_self (s : State) : s.setPc s.pc = s := rfl
@[simp] theorem State.setPc_setPc_last (s : State) (x y : PulseCounter) : (s.setPc x).setPc y = s.setPc y := rfl

/-! ### setCl -/

@[simp] theorem State.setCl_inReset (s : State) (x : Loader) : (s.setCl x).inReset = s.inReset := rfl
@[simp] theorem State.setCl_inputs (s : State) (x : Loader) : (s.setCl x).inputs = s.inputs := rfl
@[simp] theorem State.setCl_pc (s : State) (x : Loader) : (s.setCl x).pc = s.pc := rfl
@[simp] theorem State.setCl_cl (s : State) (x : Loader) : (s.setCl x).cl = x := rfl
@[simp] theorem State.setCl_ts (s : State) (x : Loader) : (s.setCl x).ts = s.ts := rfl
@[simp] theorem State.setCl_ss (s : State) (x : Loader) : (s.setCl x).ss = s.ss := rfl
@[simp] theorem State.setCl_fb (s : State) (x : Loader) : (s.setCl x).fb = s.fb := rfl
@[simp] theorem State.setCl_ps (s : State) (x : Loader) : (s.setCl x).ps = s.ps := rfl
@[simp] theorem State.setCl_hc (s : State) (x : Loader) : (s.setCl x).hc = s.hc := rfl
@[simp] theorem State.setCl_pt (s : State) (x : Loader) : (s.setCl x).pt = s.pt := rfl
@[simp] theorem State.setCl_su (s : State) (x : Loader) : (s.setCl x).su = s.su := rfl
@[simp] theorem State.setCl_ac (s : State) (x : Loader) : (s.setCl x).ac = s.ac := rfl
@[simp] theorem State.setCl_lp (s : State) (x : Loader) : (s.setCl x).lp = s.lp := rfl
@[simp] theorem State.setCl_pending (s : State) (x : Loader) : (s.setCl x).pending = s.pending := rfl
@[simp] theorem State.setCl_self (s : State) : s.setCl s.cl = s := rfl
@[simp] theorem State.setCl_setCl_last (s : State) (x y : Loader) : (s.setCl x).setCl y = s.setCl y := rfl

/-! ### setTs -/

@[simp] theorem State.setTs_inReset (s : State) (x : TrainStore) : (s.setTs x).inReset = s.inReset := rfl
@[simp] theorem State.setTs_inputs (s : State) (x : TrainStore) : (s.setTs x).inputs = s.inputs := rfl
@[simp] theorem State.setTs_pc (s : State) (x : TrainStore) : (s.setTs x).pc = s.pc := rfl
@[simp] theorem State.setTs_cl (s : State) (x : TrainStore) : (s.setTs x).cl = s.cl := rfl
@[simp] theorem State.setTs_ts (s : State) (x : TrainStore) : (s.setTs x).ts = x := rfl
@[simp] theorem State.setTs_ss (s : State) (x : TrainStore) : (s.setTs x).ss = s.ss := rfl
@[simp] theorem State.setTs_fb (s : State) (x : TrainStore) : (s.setTs x).fb = s.fb := rfl
@[simp] theorem State.setTs_ps (s : State) (x : TrainStore) : (s.setTs x).ps = s.ps := rfl
@[simp] theorem State.setTs_hc (s : State) (x : TrainStore) : (s.setTs x).hc = s.hc := rfl
@[simp] theorem State.setTs_pt (s : State) (x : TrainStore) : (s.setTs x).pt = s.pt := rfl
@[simp] theorem State.setTs_su (s : State) (x : TrainStore) : (s.setTs x).su = s.su := rfl
@[simp] theorem State.setTs_ac (s : State) (x : TrainStore) : (s.setTs x).ac = s.ac := rfl
@[simp] theorem State.setTs_lp (s : State) (x : TrainStore) : (s.setTs x).lp = s.lp := rfl
@[simp] theorem State.setTs_pending (s : State) (x : TrainStore) : (s.setTs x).pending = s.pending := rfl
@[simp] theorem State.setTs_self (s : State) : s.setTs s.ts = s := rfl
@[simp] theorem State.setTs_setTs_last (s : State) (x y : TrainStore) : (s.setTs x).setTs y = s.setTs y := rfl

/-! ### setSs -/

@[simp] theorem State.setSs_inReset (s : State) (x : List Channel) : (s.setSs x).inReset = s.inReset := rfl
@[simp] theorem State.setSs_inputs (s : State) (x : List Channel) : (s.setSs x).inputs = s.inputs := rfl
@[simp] theorem State.setSs_pc (s : State) (x : List Channel) : (s.setSs x).pc = s.pc := rfl
@[simp] theorem State.setSs_cl (s : State) (x : List Channel) : (s.setSs x).cl = s.cl := rfl
@[simp] theorem State.setSs_ts (s : State) (x : List Channel) : (s.setSs x).ts = s.ts := rfl
@[simp] theorem State.setSs_ss (s : State) (x : List Channel) : (s.setSs x).ss = x := rfl
@[simp] theorem State.setSs_fb (s : State) (x : List Channel) : (s.setSs x).fb = s.fb := rfl
@[simp] theorem State.setSs_ps (s : State) (x : List Channel) : (s.setSs x).ps = s.ps := rfl
@[simp] theorem State.setSs_hc (s : State) (x : List Channel) : (s.setSs x).hc = s.hc := rfl
@[simp] theorem State.setSs_pt (s : State) (x : List Channel) : (s.setSs x).pt = s.pt := rfl
@[simp] theorem State.setSs_su (s : State) (x : List Channel) : (s.setSs x).su = s.su := rfl
@[simp] theorem State.setSs_ac (s : State) (x : List Channel) : (s.setSs x).ac = s.ac := rfl
@[simp] theorem State.setSs_lp (s : State) (x : List Channel) : (s.setSs x).lp = s.lp := rfl
@[simp] theorem State.setSs_pending (s : State) (x : List Channel) : (s.setSs x).pending = s.pending := rfl
@[simp] theorem State.setSs_self (s : State) : s.setSs s.ss = s := rfl
@[simp] theorem State.setSs_setSs_last (s : State) (x y : List Channel) : (s.setSs x).setSs y = s.setSs y := rfl

/-! ### setFb -/

@[simp] theorem State.setFb_inReset (s : State) (x : FlowBudget) : (s.setFb x).inReset = s.inReset := rfl
@[simp] theorem State.setFb_inputs (s : State) (x : FlowBudget) : (s.setFb x).inputs = s.inputs := rfl
@[simp] theorem State.setFb_pc (s : State) (x : FlowBudget) : (s.setFb x).pc = s.pc := rfl
@[simp] theorem State.setFb_cl (s : State) (x : FlowBudget) : (s.setFb x).cl = s.cl := rfl
@[simp] theorem State.setFb_ts (s : State) (x : FlowBudget) : (s.setFb x).ts = s.ts := rfl
@[simp] theorem State.setFb_ss (s : State) (x : FlowBudget) : (s.setFb x).ss = s.ss := rfl
@[simp] theorem State.setFb_fb (s : State) (x : FlowBudget) : (s.setFb x).fb = x := rfl
@[simp] theorem State.setFb_ps (s : State) (x : FlowBudget) : (s.setFb x).ps = s.ps := rfl
@[simp] theorem State.setFb_hc (s : State) (x : FlowBudget) : (s.setFb x).hc = s.hc := rfl
@[simp] theorem State.setFb_pt (s : State) (x : FlowBudget) : (s.setFb x).pt = s.pt := rfl
@[simp] theorem State.setFb_su (s : State) (x : FlowBudget) : (s.setFb x).su = s.su := rfl
@[simp] theorem State.setFb_ac (s : State) (x : FlowBudget) : (s.setFb x).ac = s.ac := rfl
@[simp] theorem State.setFb_lp (s : State) (x : FlowBudget) : (s.setFb x).lp = s.lp := rfl
@[simp] theorem State.setFb_pending (s : State) (x : FlowBudget) : (s.setFb x).pending = s.pending := rfl
@[simp] theorem State.setFb_self (s : State) : s.setFb s.fb = s := rfl
@[simp] theorem State.setFb_setFb_last (s : State) (x y : FlowBudget) : (s.setFb x).setFb y = s.setFb y := rfl

/-! ### setPs -/

@[simp] theorem State.setPs_inReset (s : State) (x : PurgeScheduler) : (s.setPs x).inReset = s.inReset := rfl
@[simp] theorem State.setPs_inputs (s : State) (x : PurgeScheduler) : (s.setPs x).inputs = s.inputs := rfl
@[simp] theorem State.setPs_pc (s : State) (x : PurgeScheduler) : (s.setPs x).pc = s.pc := rfl
@[simp] theorem State.setPs_cl (s : State) (x : PurgeScheduler) : (s.setPs x).cl = s.cl := rfl
@[simp] theorem State.setPs_ts (s : State) (x : PurgeScheduler) : (s.setPs x).ts = s.ts := rfl
@[simp] theorem State.setPs_ss (s : State) (x : PurgeScheduler) : (s.setPs x).ss = s.ss := rfl
@[simp] theorem State.setPs_fb (s : State) (x : PurgeScheduler) : (s.setPs x).fb = s.fb := rfl
@[simp] theorem State.setPs_ps (s : State) (x : PurgeScheduler) : (s.setPs x).ps = x := rfl
@[simp] theorem State.setPs_hc (s : State) (x : PurgeScheduler) : (s.setPs x).hc = s.hc := rfl
@[simp] theorem State.setPs_pt (s : State) (x : PurgeScheduler) : (s.setPs x).pt = s.pt := rfl
@[simp] theorem State.setPs_su (s : State) (x : PurgeScheduler) : (s.setPs x).su = s.su := rfl
@[simp] theorem State.setPs_ac (s : State) (x : PurgeScheduler) : (s.setPs x).ac = s.ac := rfl
@[simp] theorem State.setPs_lp (s : State) (x : PurgeScheduler) : (s.setPs x).lp = s.lp := rfl
@[simp] theorem State.setPs_pending (s : State) (x : PurgeScheduler) : (s.setPs x).pending = s.pending := rfl
@[simp] theorem State.setPs_self (s : State) : s.setPs s.ps = s := rfl
@[simp] theorem State.setPs_setPs_last (s : State) (x y : PurgeScheduler) : (s.setPs x).setPs y = s.setPs y := rfl

/-! ### setHc -/

@[simp] theorem State.setHc_inReset (s : State) (x : HaltController) : (s.setHc x).inReset = s.inReset := rfl
@[simp] theorem State.setHc_inputs (s : State) (x : HaltController) : (s.setHc x).inputs = s.inputs := rfl
@[simp] theorem State.setHc_pc (s : State) (x : HaltController) : (s.setHc x).pc = s.pc := rfl
@[simp] theorem State.setHc_cl (s : State) (x : HaltController) : (s.setHc x).cl = s.cl := rfl
@[simp] theorem State.setHc_ts (s : State) (x : HaltController) : (s.setHc x).ts = s.ts := rfl
@[simp] theorem State.setHc_ss (s : State) (x : HaltController) : (s.setHc x).ss = s.ss := rfl
@[simp] theorem State.setHc_fb (s : State) (x : HaltController) : (s.setHc x).fb = s.fb := rfl
@[simp] theorem State.setHc_ps (s : State) (x : HaltController) : (s.setHc x).ps = s.ps := rfl
@[simp] theorem State.setHc_hc (s : State) (x : HaltController) : (s.setHc x).hc = x := rfl
@[simp] theorem State.setHc_pt (s : State) (x : HaltController) : (s.setHc x).pt = s.pt := rfl
@[simp] theorem State.setHc_su (s : State) (x : HaltController) : (s.setHc x).su = s.su := rfl
@[simp] theorem State.setHc_ac (s : State) (x : HaltController) : (s.setHc x).ac = s.ac := rfl
@[simp] theorem State.setHc_lp (s : State) (x : HaltController) : (s.setHc x).lp = s.lp := rfl
@[simp] theorem State.setHc_pending (s : State) (x : HaltController) : (s.setHc x).pending = s.pending := rfl
@[simp] theorem State.setHc_self (s : State) : s.setHc s.hc = s := rfl
@[simp] theorem State.setHc_setHc_last (s : State) (x y : HaltController) : (s.setHc x).setHc y = s.setHc y := rfl

/-! ### setPt -/

@[simp] theorem State.setPt_inReset (s : State) (x : PeerTable) : (s.setPt x).inReset = s.inReset := rfl
@[simp] theorem State.setPt_inputs (s : State) (x : PeerTable) : (s.setPt x).inputs = s.inputs := rfl
@[simp] theorem State.setPt_pc (s : State) (x : PeerTable) : (s.setPt x).pc = s.pc := rfl
@[simp] theorem State.setPt_cl (s : State) (x : PeerTable) : (s.setPt x).cl = s.cl := rfl
@[simp] theorem State.setPt_ts (s : State) (x : PeerTable) : (s.setPt x).ts = s.ts := rfl
@[simp] theorem State.setPt_ss (s : State) (x : PeerTable) : (s.setPt x).ss = s.ss := rfl
@[simp] theorem State.setPt_fb (s : State) (x : PeerTable) : (s.setPt x).fb = s.fb := rfl
@[simp] theorem State.setPt_ps (s : State) (x : PeerTable) : (s.setPt x).ps = s.ps := rfl
@[simp] theorem State.setPt_hc (s : State) (x : PeerTable) : (s.setPt x).hc = s.hc := rfl
@[simp] theorem State.setPt_pt (s : State) (x : PeerTable) : (s.setPt x).pt = x := rfl
@[simp] theorem State.setPt_su (s : State) (x : PeerTable) : (s.setPt x).su = s.su := rfl
@[simp] theorem State.setPt_ac (s : State) (x : PeerTable) : (s.setPt x).ac = s.ac := rfl
@[simp] theorem State.setPt_lp (s : State) (x : PeerTable) : (s.setPt x).lp = s.lp := rfl
@[simp] theorem State.setPt_pending (s : State) (x : PeerTable) : (s.setPt x).pending = s.pending := rfl
@[simp] theorem State.setPt_self (s : State) : s.setPt s.pt = s := rfl
@[simp] theorem State.setPt_setPt_last (s : State) (x y : PeerTable) : (s.setPt x).setPt y = s.setPt y := rfl

/-! ### setSu -/

@[simp] theorem State.setSu_inReset (s : State) (x : SalesUnit) : (s.setSu x).inReset = s.inReset := rfl
@[simp] theorem State.setSu_inputs (s : State) (x : SalesUnit) : (s.setSu x).inputs = s.inputs := rfl
@[simp] theorem State.setSu_pc (s : State) (x : SalesUnit) : (s.setSu x).pc = s.pc := rfl
@[simp] theorem State.setSu_cl (s : State) (x : SalesUnit) : (s.setSu x).cl = s.cl := rfl
@[simp] theorem State.setSu_ts (s : State) (x : SalesUnit) : (s.setSu x).ts = s.ts := rfl
@[simp] theorem State.setSu_ss (s : State) (x : SalesUnit) : (s.setSu x).ss = s.ss := rfl
@[simp] theorem State.setSu_fb (s : State) (x : SalesUnit) : (s.setSu x).fb = s.fb := rfl
@[simp] theorem State.setSu_ps (s : State) (x : SalesUnit) : (s.setSu x).ps = s.ps := rfl
@[simp] theorem State.setSu_hc (s : State) (x : SalesUnit) : (s.setSu x).hc = s.hc := rfl
@[simp] theorem State.setSu_pt (s : State) (x : SalesUnit) : (s.setSu x).pt = s.pt := rfl
@[simp] theorem State.setSu_su (s : State) (x : SalesUnit) : (s.setSu x).su = x := rfl
@[simp] theorem State.setSu_ac (s : State) (x : SalesUnit) : (s.setSu x).ac = s.ac := rfl
@[simp] theorem State.setSu_lp (s : State) (x : SalesUnit) : (s.setSu x).lp = s.lp := rfl
@[simp] theorem State.setSu_pending (s : State) (x : SalesUnit) : (s.setSu x).pending = s.pending := rfl
@[simp] theorem State.setSu_self (s : State) : s.setSu s.su = s := rfl
@[simp] theorem State.setSu_setSu_last (s : State) (x y : SalesUnit) : (s.setSu x).setSu y = s.setSu y := rfl

/-! ### setAc -/

@[simp] theorem State.setAc_inReset (s : State) (x : Admission) : (s.setAc x).inReset = s.inReset := rfl
@[simp] theorem State.setAc_inputs (s : State) (x : Admission) : (s.setAc x).inputs = s.inputs := rfl
@[simp] theorem State.setAc_pc (s : State) (x : Admission) : (s.setAc x).pc = s.pc := rfl
@[simp] theorem State.setAc_cl (s : State) (x : Admission) : (s.setAc x).cl = s.cl := rfl
@[simp] theorem State.setAc_ts (s : State) (x : Admission) : (s.setAc x).ts = s.ts := rfl
@[simp] theorem State.setAc_ss (s : State) (x : Admission) : (s.setAc x).ss = s.ss := rfl
@[simp] theorem State.setAc_fb (s : State) (x : Admission) : (s.setAc x).fb = s.fb := rfl
@[simp] theorem State.setAc_ps (s : State) (x : Admission) : (s.setAc x).ps = s.ps := rfl
@[simp] theorem State.setAc_hc (s : State) (x : Admission) : (s.setAc x).hc = s.hc := rfl
@[simp] theorem State.setAc_pt (s : State) (x : Admission) : (s.setAc x).pt = s.pt := rfl
@[simp] theorem State.setAc_su (s : State) (x : Admission) : (s.setAc x).su = s.su := rfl
@[simp] theorem State.setAc_ac (s : State) (x : Admission) : (s.setAc x).ac = x := rfl
@[simp] theorem State.setAc_lp (s : State) (x : Admission) : (s.setAc x).lp = s.lp := rfl
@[simp] theorem State.setAc_pending (s : State) (x : Admission) : (s.setAc x).pending = s.pending := rfl
@[simp] theorem State.setAc_self (s : State) : s.setAc s.ac = s := rfl
@[simp] theorem State.setAc_setAc_last (s : State) (x y : Admission) : (s.setAc x).setAc y = s.setAc y := rfl

/-! ### setLp -/

@[simp] theorem State.setLp_inReset (s : State) (x : LinePort) : (s.setLp x).inReset = s.inReset := rfl
@[simp] theorem State.setLp_inputs (s : State) (x : LinePort) : (s.setLp x).inputs = s.inputs := rfl
@[simp] theorem State.setLp_pc (s : State) (x : LinePort) : (s.setLp x).pc = s.pc := rfl
@[simp] theorem State.setLp_cl (s : State) (x : LinePort) : (s.setLp x).cl = s.cl := rfl
@[simp] theorem State.setLp_ts (s : State) (x : LinePort) : (s.setLp x).ts = s.ts := rfl
@[simp] theorem State.setLp_ss (s : State) (x : LinePort) : (s.setLp x).ss = s.ss := rfl
@[simp] theorem State.setLp_fb (s : State) (x : LinePort) : (s.setLp x).fb = s.fb := rfl
@[simp] theorem State.setLp_ps (s : State) (x : LinePort) : (s.setLp x).ps = s.ps := rfl
@[simp] theorem State.setLp_hc (s : State) (x : LinePort) : (s.setLp x).hc = s.hc := rfl
@[simp] theorem State.setLp_pt (s : State) (x : LinePort) : (s.setLp x).pt = s.pt := rfl
@[simp] theorem State.setLp_su (s : State) (x : LinePort) : (s.setLp x).su = s.su := rfl
@[simp] theorem State.setLp_ac (s : State) (x : LinePort) : (s.setLp x).ac = s.ac := rfl
@[simp] theorem State.setLp_lp (s : State) (x : LinePort) : (s.setLp x).lp = x := rfl
@[simp] theorem State.setLp_pending (s : State) (x : LinePort) : (s.setLp x).pending = s.pending := rfl
@[simp] theorem State.setLp_self (s : State) : s.setLp s.lp = s := rfl
@[simp] theorem State.setLp_setLp_last (s : State) (x y : LinePort) : (s.setLp x).setLp y = s.setLp y := rfl

/-! ### setPending -/

@[simp] theorem State.setPending_inReset (s : State) (x : List Instr) : (s.setPending x).inReset = s.inReset := rfl
@[simp] theorem State.setPending_inputs (s : State) (x : List Instr) : (s.setPending x).inputs = s.inputs := rfl
@[simp] theorem State.setPending_pc (s : State) (x : List Instr) : (s.setPending x).pc = s.pc := rfl
@[simp] theorem State.setPending_cl (s : State) (x : List Instr) : (s.setPending x).cl = s.cl := rfl
@[simp] theorem State.setPending_ts (s : State) (x : List Instr) : (s.setPending x).ts = s.ts := rfl
@[simp] theorem State.setPending_ss (s : State) (x : List Instr) : (s.setPending x).ss = s.ss := rfl
@[simp] theorem State.setPending_fb (s : State) (x : List Instr) : (s.setPending x).fb = s.fb := rfl
@[simp] theorem State.setPending_ps (s : State) (x : List Instr) : (s.setPending x).ps = s.ps := rfl
@[simp] theorem State.setPending_hc (s : State) (x : List Instr) : (s.setPending x).hc = s.hc := rfl
@[simp] theorem State.setPending_pt (s : State) (x : List Instr) : (s.setPending x).pt = s.pt := rfl
@[simp] theorem State.setPending_su (s : State) (x : List Instr) : (s.setPending x).su = s.su := rfl
@[simp] theorem State.setPending_ac (s : State) (x : List Instr) : (s.setPending x).ac = s.ac := rfl
@[simp] theorem State.setPending_lp (s : State) (x : List Instr) : (s.setPending x).lp = s.lp := rfl
@[simp] theorem State.setPending_pending (s : State) (x : List Instr) : (s.setPending x).pending = x := rfl
@[simp] theorem State.setPending_self (s : State) : s.setPending s.pending = s := rfl
@[simp] theorem State.setPending_setPending_last (s : State) (x y : List Instr) : (s.setPending x).setPending y = s.setPending y := rfl

/-! ### setTrain -/

@[simp] theorem State.setTrain_inReset (s : State) (t : List Car) : (s.setTrain t).inReset = s.inReset := rfl
@[simp] theorem State.setTrain_inputs (s : State) (t : List Car) : (s.setTrain t).inputs = s.inputs := rfl
@[simp] theorem State.setTrain_pc (s : State) (t : List Car) : (s.setTrain t).pc = s.pc := rfl
@[simp] theorem State.setTrain_cl (s : State) (t : List Car) : (s.setTrain t).cl = s.cl := rfl
@[simp] theorem State.setTrain_ts (s : State) (t : List Car) : (s.setTrain t).ts = { s.ts with train := t } := rfl
@[simp] theorem State.setTrain_ss (s : State) (t : List Car) : (s.setTrain t).ss = s.ss := rfl
@[simp] theorem State.setTrain_fb (s : State) (t : List Car) : (s.setTrain t).fb = s.fb := rfl
@[simp] theorem State.setTrain_ps (s : State) (t : List Car) : (s.setTrain t).ps = s.ps := rfl
@[simp] theorem State.setTrain_hc (s : State) (t : List Car) : (s.setTrain t).hc = s.hc := rfl
@[simp] theorem State.setTrain_pt (s : State) (t : List Car) : (s.setTrain t).pt = s.pt := rfl
@[simp] theorem State.setTrain_su (s : State) (t : List Car) : (s.setTrain t).su = s.su := rfl
@[simp] theorem State.setTrain_ac (s : State) (t : List Car) : (s.setTrain t).ac = s.ac := rfl
@[simp] theorem State.setTrain_lp (s : State) (t : List Car) : (s.setTrain t).lp = s.lp := rfl
@[simp] theorem State.setTrain_pending (s : State) (t : List Car) : (s.setTrain t).pending = s.pending := rfl

/-! ### setRunState -/

@[simp] theorem State.setRunState_inReset (s : State) (r : RunState) : (s.setRunState r).inReset = s.inReset := rfl
@[simp] theorem State.setRunState_inputs (s : State) (r : RunState) : (s.setRunState r).inputs = s.inputs := rfl
@[simp] theorem State.setRunState_pc (s : State) (r : RunState) : (s.setRunState r).pc = s.pc := rfl
@[simp] theorem State.setRunState_cl (s : State) (r : RunState) : (s.setRunState r).cl = s.cl := rfl
@[simp] theorem State.setRunState_ts (s : State) (r : RunState) : (s.setRunState r).ts = s.ts := rfl
@[simp] theorem State.setRunState_ss (s : State) (r : RunState) : (s.setRunState r).ss = s.ss := rfl
@[simp] theorem State.setRunState_fb (s : State) (r : RunState) : (s.setRunState r).fb = s.fb := rfl
@[simp] theorem State.setRunState_ps (s : State) (r : RunState) : (s.setRunState r).ps = s.ps := rfl
@[simp] theorem State.setRunState_hc (s : State) (r : RunState) : (s.setRunState r).hc = { s.hc with runState := r } := rfl
@[simp] theorem State.setRunState_pt (s : State) (r : RunState) : (s.setRunState r).pt = s.pt := rfl
@[simp] theorem State.setRunState_su (s : State) (r : RunState) : (s.setRunState r).su = s.su := rfl
@[simp] theorem State.setRunState_ac (s : State) (r : RunState) : (s.setRunState r).ac = s.ac := rfl
@[simp] theorem State.setRunState_lp (s : State) (r : RunState) : (s.setRunState r).lp = s.lp := rfl
@[simp] theorem State.setRunState_pending (s : State) (r : RunState) : (s.setRunState r).pending = s.pending := rfl

/-! ### setChannel -/

@[simp] theorem State.setChannel_inReset (s : State) (i : Nat) (c : Channel) : (s.setChannel i c).inReset = s.inReset := rfl
@[simp] theorem State.setChannel_inputs (s : State) (i : Nat) (c : Channel) : (s.setChannel i c).inputs = s.inputs := rfl
@[simp] theorem State.setChannel_pc (s : State) (i : Nat) (c : Channel) : (s.setChannel i c).pc = s.pc := rfl
@[simp] theorem State.setChannel_cl (s : State) (i : Nat) (c : Channel) : (s.setChannel i c).cl = s.cl := rfl
@[simp] theorem State.setChannel_ts (s : State) (i : Nat) (c : Channel) : (s.setChannel i c).ts = s.ts := rfl
@[simp] theorem State.setChannel_ss (s : State) (i : Nat) (c : Channel) : (s.setChannel i c).ss = s.ss.set i c := rfl
@[simp] theorem State.setChannel_fb (s : State) (i : Nat) (c : Channel) : (s.setChannel i c).fb = s.fb := rfl
@[simp] theorem State.setChannel_ps (s : State) (i : Nat) (c : Channel) : (s.setChannel i c).ps = s.ps := rfl
@[simp] theorem State.setChannel_hc (s : State) (i : Nat) (c : Channel) : (s.setChannel i c).hc = s.hc := rfl
@[simp] theorem State.setChannel_pt (s : State) (i : Nat) (c : Channel) : (s.setChannel i c).pt = s.pt := rfl
@[simp] theorem State.setChannel_su (s : State) (i : Nat) (c : Channel) : (s.setChannel i c).su = s.su := rfl
@[simp] theorem State.setChannel_ac (s : State) (i : Nat) (c : Channel) : (s.setChannel i c).ac = s.ac := rfl
@[simp] theorem State.setChannel_lp (s : State) (i : Nat) (c : Channel) : (s.setChannel i c).lp = s.lp := rfl
@[simp] theorem State.setChannel_pending (s : State) (i : Nat) (c : Channel) : (s.setChannel i c).pending = s.pending := rfl

/-! ### setInput -/

@[simp] theorem State.setInput_inReset (s : State) (pin : InputPin) (x : Debounced) : (s.setInput pin x).inReset = s.inReset := rfl
@[simp] theorem State.setInput_inputs (s : State) (pin : InputPin) (x : Debounced) : (s.setInput pin x).inputs = s.inputs.set pin x := rfl
@[simp] theorem State.setInput_pc (s : State) (pin : InputPin) (x : Debounced) : (s.setInput pin x).pc = s.pc := rfl
@[simp] theorem State.setInput_cl (s : State) (pin : InputPin) (x : Debounced) : (s.setInput pin x).cl = s.cl := rfl
@[simp] theorem State.setInput_ts (s : State) (pin : InputPin) (x : Debounced) : (s.setInput pin x).ts = s.ts := rfl
@[simp] theorem State.setInput_ss (s : State) (pin : InputPin) (x : Debounced) : (s.setInput pin x).ss = s.ss := rfl
@[simp] theorem State.setInput_fb (s : State) (pin : InputPin) (x : Debounced) : (s.setInput pin x).fb = s.fb := rfl
@[simp] theorem State.setInput_ps (s : State) (pin : InputPin) (x : Debounced) : (s.setInput pin x).ps = s.ps := rfl
@[simp] theorem State.setInput_hc (s : State) (pin : InputPin) (x : Debounced) : (s.setInput pin x).hc = s.hc := rfl
@[simp] theorem State.setInput_pt (s : State) (pin : InputPin) (x : Debounced) : (s.setInput pin x).pt = s.pt := rfl
@[simp] theorem State.setInput_su (s : State) (pin : InputPin) (x : Debounced) : (s.setInput pin x).su = s.su := rfl
@[simp] theorem State.setInput_ac (s : State) (pin : InputPin) (x : Debounced) : (s.setInput pin x).ac = s.ac := rfl
@[simp] theorem State.setInput_lp (s : State) (pin : InputPin) (x : Debounced) : (s.setInput pin x).lp = s.lp := rfl
@[simp] theorem State.setInput_pending (s : State) (pin : InputPin) (x : Debounced) : (s.setInput pin x).pending = s.pending := rfl

/-! ### setLane -/

@[simp] theorem State.setLane_inReset (s : State) (l : Lane) (x : LaneSales) : (s.setLane l x).inReset = s.inReset := rfl
@[simp] theorem State.setLane_inputs (s : State) (l : Lane) (x : LaneSales) : (s.setLane l x).inputs = s.inputs := rfl
@[simp] theorem State.setLane_pc (s : State) (l : Lane) (x : LaneSales) : (s.setLane l x).pc = s.pc := rfl
@[simp] theorem State.setLane_cl (s : State) (l : Lane) (x : LaneSales) : (s.setLane l x).cl = s.cl := rfl
@[simp] theorem State.setLane_ts (s : State) (l : Lane) (x : LaneSales) : (s.setLane l x).ts = s.ts := rfl
@[simp] theorem State.setLane_ss (s : State) (l : Lane) (x : LaneSales) : (s.setLane l x).ss = s.ss := rfl
@[simp] theorem State.setLane_fb (s : State) (l : Lane) (x : LaneSales) : (s.setLane l x).fb = s.fb := rfl
@[simp] theorem State.setLane_ps (s : State) (l : Lane) (x : LaneSales) : (s.setLane l x).ps = s.ps := rfl
@[simp] theorem State.setLane_hc (s : State) (l : Lane) (x : LaneSales) : (s.setLane l x).hc = s.hc := rfl
@[simp] theorem State.setLane_pt (s : State) (l : Lane) (x : LaneSales) : (s.setLane l x).pt = s.pt := rfl
@[simp] theorem State.setLane_su (s : State) (l : Lane) (x : LaneSales) : (s.setLane l x).su = s.su.setLane l x := rfl
@[simp] theorem State.setLane_ac (s : State) (l : Lane) (x : LaneSales) : (s.setLane l x).ac = s.ac := rfl
@[simp] theorem State.setLane_lp (s : State) (l : Lane) (x : LaneSales) : (s.setLane l x).lp = s.lp := rfl
@[simp] theorem State.setLane_pending (s : State) (l : Lane) (x : LaneSales) : (s.setLane l x).pending = s.pending := rfl

/-! ### mapPeers -/

@[simp] theorem State.mapPeers_inReset (s : State) (f : Peer → Peer) : (s.mapPeers f).inReset = s.inReset := rfl
@[simp] theorem State.mapPeers_inputs (s : State) (f : Peer → Peer) : (s.mapPeers f).inputs = s.inputs := rfl
@[simp] theorem State.mapPeers_pc (s : State) (f : Peer → Peer) : (s.mapPeers f).pc = s.pc := rfl
@[simp] theorem State.mapPeers_cl (s : State) (f : Peer → Peer) : (s.mapPeers f).cl = s.cl := rfl
@[simp] theorem State.mapPeers_ts (s : State) (f : Peer → Peer) : (s.mapPeers f).ts = s.ts := rfl
@[simp] theorem State.mapPeers_ss (s : State) (f : Peer → Peer) : (s.mapPeers f).ss = s.ss := rfl
@[simp] theorem State.mapPeers_fb (s : State) (f : Peer → Peer) : (s.mapPeers f).fb = s.fb := rfl
@[simp] theorem State.mapPeers_ps (s : State) (f : Peer → Peer) : (s.mapPeers f).ps = s.ps := rfl
@[simp] theorem State.mapPeers_hc (s : State) (f : Peer → Peer) : (s.mapPeers f).hc = s.hc := rfl
@[simp] theorem State.mapPeers_pt (s : State) (f : Peer → Peer) : (s.mapPeers f).pt = { s.pt with peers := s.pt.peers.map f } := rfl
@[simp] theorem State.mapPeers_su (s : State) (f : Peer → Peer) : (s.mapPeers f).su = s.su := rfl
@[simp] theorem State.mapPeers_ac (s : State) (f : Peer → Peer) : (s.mapPeers f).ac = s.ac := rfl
@[simp] theorem State.mapPeers_lp (s : State) (f : Peer → Peer) : (s.mapPeers f).lp = s.lp := rfl
@[simp] theorem State.mapPeers_pending (s : State) (f : Peer → Peer) : (s.mapPeers f).pending = s.pending := rfl

/-! ### queue -/

@[simp] theorem State.queue_inReset (s : State) (f : Frame) : (s.queue f).inReset = s.inReset := rfl
@[simp] theorem State.queue_inputs (s : State) (f : Frame) : (s.queue f).inputs = s.inputs := rfl
@[simp] theorem State.queue_pc (s : State) (f : Frame) : (s.queue f).pc = s.pc := rfl
@[simp] theorem State.queue_cl (s : State) (f : Frame) : (s.queue f).cl = s.cl := rfl
@[simp] theorem State.queue_ts (s : State) (f : Frame) : (s.queue f).ts = s.ts := rfl
@[simp] theorem State.queue_ss (s : State) (f : Frame) : (s.queue f).ss = s.ss := rfl
@[simp] theorem State.queue_fb (s : State) (f : Frame) : (s.queue f).fb = s.fb := rfl
@[simp] theorem State.queue_ps (s : State) (f : Frame) : (s.queue f).ps = s.ps := rfl
@[simp] theorem State.queue_hc (s : State) (f : Frame) : (s.queue f).hc = s.hc := rfl
@[simp] theorem State.queue_pt (s : State) (f : Frame) : (s.queue f).pt = s.pt := rfl
@[simp] theorem State.queue_su (s : State) (f : Frame) : (s.queue f).su = s.su := rfl
@[simp] theorem State.queue_ac (s : State) (f : Frame) : (s.queue f).ac = s.ac := rfl
@[simp] theorem State.queue_lp (s : State) (f : Frame) : (s.queue f).lp = s.lp.hand ⟨f, none⟩ := rfl
@[simp] theorem State.queue_pending (s : State) (f : Frame) : (s.queue f).pending = s.pending := rfl

/-! ### queueAdmit -/

@[simp] theorem State.queueAdmit_inReset (s : State) (f : Frame) (m : Pulse) : (s.queueAdmit f m).inReset = s.inReset := rfl
@[simp] theorem State.queueAdmit_inputs (s : State) (f : Frame) (m : Pulse) : (s.queueAdmit f m).inputs = s.inputs := rfl
@[simp] theorem State.queueAdmit_pc (s : State) (f : Frame) (m : Pulse) : (s.queueAdmit f m).pc = s.pc := rfl
@[simp] theorem State.queueAdmit_cl (s : State) (f : Frame) (m : Pulse) : (s.queueAdmit f m).cl = s.cl := rfl
@[simp] theorem State.queueAdmit_ts (s : State) (f : Frame) (m : Pulse) : (s.queueAdmit f m).ts = s.ts := rfl
@[simp] theorem State.queueAdmit_ss (s : State) (f : Frame) (m : Pulse) : (s.queueAdmit f m).ss = s.ss := rfl
@[simp] theorem State.queueAdmit_fb (s : State) (f : Frame) (m : Pulse) : (s.queueAdmit f m).fb = s.fb := rfl
@[simp] theorem State.queueAdmit_ps (s : State) (f : Frame) (m : Pulse) : (s.queueAdmit f m).ps = s.ps := rfl
@[simp] theorem State.queueAdmit_hc (s : State) (f : Frame) (m : Pulse) : (s.queueAdmit f m).hc = s.hc := rfl
@[simp] theorem State.queueAdmit_pt (s : State) (f : Frame) (m : Pulse) : (s.queueAdmit f m).pt = s.pt := rfl
@[simp] theorem State.queueAdmit_su (s : State) (f : Frame) (m : Pulse) : (s.queueAdmit f m).su = s.su := rfl
@[simp] theorem State.queueAdmit_ac (s : State) (f : Frame) (m : Pulse) : (s.queueAdmit f m).ac = s.ac := rfl
@[simp] theorem State.queueAdmit_lp (s : State) (f : Frame) (m : Pulse) : (s.queueAdmit f m).lp = s.lp.hand ⟨f, some m⟩ := rfl
@[simp] theorem State.queueAdmit_pending (s : State) (f : Frame) (m : Pulse) : (s.queueAdmit f m).pending = s.pending := rfl

/-! ### Reading what was written -/

@[simp] theorem Inputs.get_set_self (i : Inputs) (p : InputPin) (x : Debounced) : (i.set p x).get p = x := by cases p <;> rfl

theorem Inputs.get_set_other (i : Inputs) (p q : InputPin) (x : Debounced) (h : q ≠ p) : (i.set p x).get q = i.get q := by
  cases p <;> cases q <;> first | rfl | exact absurd rfl h

@[simp] theorem Inputs.set_overTemp (i : Inputs) (p : InputPin) (x : Debounced) : (i.set p x).overTemp = i.overTemp := by
  cases p <;> rfl

@[simp] theorem SalesUnit.lane_setLane_self (u : SalesUnit) (l : Lane) (x : LaneSales) : (u.setLane l x).lane l = x := by
  cases l <;> rfl

theorem SalesUnit.lane_setLane_other (u : SalesUnit) (l m : Lane) (x : LaneSales) (h : m ≠ l) :
    (u.setLane l x).lane m = u.lane m := by
  cases l <;> cases m <;> first | rfl | exact absurd rfl h

@[simp] theorem SalesUnit.setLane_catalogue (u : SalesUnit) (l : Lane) (x : LaneSales) :
    (u.setLane l x).catalogue = u.catalogue := by cases l <;> rfl

@[simp] theorem SalesUnit.setLane_credits (u : SalesUnit) (l : Lane) (x : LaneSales) : (u.setLane l x).credits = u.credits := by
  cases l <;> rfl

@[simp] theorem SalesUnit.setLane_lastSale (u : SalesUnit) (l : Lane) (x : LaneSales) : (u.setLane l x).lastSale = u.lastSale := by
  cases l <;> rfl

@[simp] theorem SalesUnit.setLane_lastTicket (u : SalesUnit) (l : Lane) (x : LaneSales) :
    (u.setLane l x).lastTicket = u.lastTicket := by cases l <;> rfl

@[simp] theorem Admission.skip_setSkip_self (c : Admission) (l : Lane) (n : Nat) : (c.setSkip l n).skip l = n := by
  cases l <;> rfl

theorem Admission.skip_setSkip_other (c : Admission) (l m : Lane) (n : Nat) (h : m ≠ l) : (c.setSkip l n).skip m = c.skip m := by
  cases l <;> cases m <;> first | rfl | exact absurd rfl h

@[simp] theorem Admission.setSkip_gate (c : Admission) (l : Lane) (n : Nat) : (c.setSkip l n).gate = c.gate := by cases l <;> rfl
@[simp] theorem Admission.setSkip_turn (c : Admission) (l : Lane) (n : Nat) : (c.setSkip l n).turn = c.turn := by cases l <;> rfl
@[simp] theorem Admission.setSkip_gap (c : Admission) (l : Lane) (n : Nat) : (c.setSkip l n).gap = c.gap := by cases l <;> rfl
@[simp] theorem Admission.setSkip_limit (c : Admission) (l : Lane) (n : Nat) : (c.setSkip l n).limit = c.limit := by
  cases l <;> rfl
@[simp] theorem Admission.setSkip_callTimeout (c : Admission) (l : Lane) (n : Nat) :
    (c.setSkip l n).callTimeout = c.callTimeout := by cases l <;> rfl

/-! ### The peers' list -/

@[simp] theorem State.updatePeer_pt (s : State) (n : Nat) (f : Peer → Peer) :
    (s.updatePeer n f).pt = { s.pt with peers := s.pt.peers.map (fun r => if r.station == n then f r else r) } := rfl

theorem State.updatePeer_eq_setPt (s : State) (n : Nat) (f : Peer → Peer) : s.updatePeer n f = s.setPt (s.updatePeer n f).pt := rfl

theorem State.mapPeers_eq_setPt (s : State) (f : Peer → Peer) : s.mapPeers f = s.setPt (s.mapPeers f).pt := rfl

/-! ### The step of a tick -/

@[simp] theorem State.answerTaken_ts (s : State) : s.answerTaken.ts = { s.ts with answerDue := false } := rfl
@[simp] theorem State.answerTaken_inReset (s : State) : s.answerTaken.inReset = s.inReset := rfl
@[simp] theorem State.answerTaken_inputs (s : State) : s.answerTaken.inputs = s.inputs := rfl
@[simp] theorem State.answerTaken_pc (s : State) : s.answerTaken.pc = s.pc := rfl
@[simp] theorem State.answerTaken_cl (s : State) : s.answerTaken.cl = s.cl := rfl
@[simp] theorem State.answerTaken_ss (s : State) : s.answerTaken.ss = s.ss := rfl
@[simp] theorem State.answerTaken_fb (s : State) : s.answerTaken.fb = s.fb := rfl
@[simp] theorem State.answerTaken_ps (s : State) : s.answerTaken.ps = s.ps := rfl
@[simp] theorem State.answerTaken_hc (s : State) : s.answerTaken.hc = s.hc := rfl
@[simp] theorem State.answerTaken_pt (s : State) : s.answerTaken.pt = s.pt := rfl
@[simp] theorem State.answerTaken_su (s : State) : s.answerTaken.su = s.su := rfl
@[simp] theorem State.answerTaken_ac (s : State) : s.answerTaken.ac = s.ac := rfl
@[simp] theorem State.answerTaken_lp (s : State) : s.answerTaken.lp = s.lp := rfl
@[simp] theorem State.answerTaken_pending (s : State) : s.answerTaken.pending = s.pending := rfl

end Sys2Proof.Machine
end

