-- ==== Sys2Proof/Laws/Quiet.lean ====
section
/-! SUPPORT. What the readers of a change never write: one lemma for each operation that the end of an action is made of, and
`settle_quiet` for the whole. A proof about a command cites these and unfolds none of them. -/

namespace Sys2Proof.Machine

open Sys2Proof

/-- The fields of a channel that only its own commands write. -/
def Channel.fixed (c : Channel) : ChannelConfig × Bool × Bool × Pace × Pace × Nat :=
  (c.cfg, c.recorded, c.override, c.sustain, c.sample, c.drivePhase)

/-- The fields of a car that only the train store's own commands write. -/
def Car.fixed (c : Car) : (Ticket × Pulse × Option Nat × ServiceSet × Nat × Bool) × EyeStatus := (c.core, c.eye)

/-- A sale but for whether it is CALLED. -/
def Sale.fixed (x : Sale) : Sale := { x with state := .paid }

/-- From s to t only what the readers of a change write has changed. -/
structure Quiet (s t : State) : Prop where
  outside : SameOutside s t
  sales : SameSales s t
  eye : SameEye s t
  queues : ∀ l, (t.su.lane l).queue.map Sale.fixed = (s.su.lane l).queue.map Sale.fixed
  debt : t.ps.debt = s.ps.debt ∧ t.ps.request = s.ps.request ∧ t.ps.interval = s.ps.interval
  gate : t.ac.turn = s.ac.turn ∧ t.ac.gap = s.ac.gap
  port : t.lp.inHand = s.lp.inHand ∧ t.lp.failures = s.lp.failures
  channels : t.ss.map Channel.fixed = s.ss.map Channel.fixed
  cars : (t.ts.train.map Car.fixed).Sublist (s.ts.train.map Car.fixed)

theorem Quiet.refl (s : State) : Quiet s s where
  outside := ⟨rfl, rfl, rfl, rfl, rfl, rfl⟩
  sales := ⟨rfl, rfl, rfl, rfl, fun _ => ⟨rfl, rfl, rfl⟩⟩
  eye := ⟨rfl, rfl, rfl, rfl, rfl, rfl, rfl, rfl, rfl⟩
  queues := fun _ => rfl
  debt := ⟨rfl, rfl, rfl⟩
  gate := ⟨rfl, rfl⟩
  port := ⟨rfl, rfl⟩
  channels := rfl
  cars := List.Sublist.refl _

theorem Quiet.trans {s t u : State} (h : Quiet s t) (k : Quiet t u) : Quiet s u where
  outside := by
    obtain ⟨a, b, c, d, e, f⟩ := h.outside
    obtain ⟨a', b', c', d', e', f'⟩ := k.outside
    exact ⟨a'.trans a, b'.trans b, c'.trans c, d'.trans d, e'.trans e, f'.trans f⟩
  sales := by
    obtain ⟨a, b, c, d, e⟩ := h.sales
    obtain ⟨a', b', c', d', e'⟩ := k.sales
    exact ⟨a'.trans a, b'.trans b, c'.trans c, d'.trans d, fun l =>
      ⟨(e' l).1.trans (e l).1, (e' l).2.1.trans (e l).2.1, (e' l).2.2.trans (e l).2.2⟩⟩
  eye := by
    obtain ⟨a, b, c, d, e, f, g, i, j⟩ := h.eye
    obtain ⟨a', b', c', d', e', f', g', i', j'⟩ := k.eye
    exact ⟨a'.trans a, b'.trans b, c'.trans c, d'.trans d, e'.trans e, f'.trans f, g'.trans g, i'.trans i, j'.trans j⟩
  queues := fun l => (k.queues l).trans (h.queues l)
  debt := ⟨k.debt.1.trans h.debt.1, k.debt.2.1.trans h.debt.2.1, k.debt.2.2.trans h.debt.2.2⟩
  gate := ⟨k.gate.1.trans h.gate.1, k.gate.2.trans h.gate.2⟩
  port := ⟨k.port.1.trans h.port.1, k.port.2.trans h.port.2⟩
  channels := k.channels.trans h.channels
  cars := k.cars.trans h.cars

/-- A relation that is reflexive and transitive holds across a fold whose every step keeps it. -/
theorem foldl_rel {σ α : Type} {r : σ → σ → Prop} (refl : ∀ s, r s s) (trans : ∀ {s t u}, r s t → r t u → r s u)
    {f : σ → α → σ} (step : ∀ s a, r s (f s a)) (l : List α) (s : σ) : r s (l.foldl f s) := by
  induction l generalizing s with
  | nil => exact refl s
  | cons a l ih => exact trans (step s a) (ih (f s a))

theorem foldl_quiet {α : Type} {f : State → α → State} (step : ∀ s a, Quiet s (f s a)) (l : List α) (s : State) :
    Quiet s (l.foldl f s) := foldl_rel Quiet.refl Quiet.trans step l s

/-! ### Writing one block -/

theorem Quiet.setSs {s : State} {x : List Channel} (h : x.map Channel.fixed = s.ss.map Channel.fixed) : Quiet s (s.setSs x) :=
  { Quiet.refl s with channels := h }

theorem Quiet.setFb (s : State) (x : FlowBudget) : Quiet s (s.setFb x) := { Quiet.refl s with }

theorem Quiet.setHc (s : State) (x : HaltController) : Quiet s (s.setHc x) := { Quiet.refl s with }

theorem Quiet.setRunState (s : State) (x : RunState) : Quiet s (s.setRunState x) := Quiet.setHc s _

theorem Quiet.setPs {s : State} {x : PurgeScheduler} (h : x.debt = s.ps.debt ∧ x.request = s.ps.request ∧
    x.interval = s.ps.interval) : Quiet s (s.setPs x) := { Quiet.refl s with debt := h }

theorem Quiet.setAc {s : State} {x : Admission} (h : x.turn = s.ac.turn ∧ x.gap = s.ac.gap) : Quiet s (s.setAc x) :=
  { Quiet.refl s with gate := h }

theorem Quiet.setLp {s : State} {x : LinePort} (h : x.inHand = s.lp.inHand ∧ x.failures = s.lp.failures) : Quiet s (s.setLp x) :=
  { Quiet.refl s with port := h }

theorem Quiet.setTs {s : State} {x : TrainStore} (e : SameEye s (s.setTs x))
    (h : (x.train.map Car.fixed).Sublist (s.ts.train.map Car.fixed)) : Quiet s (s.setTs x) :=
  { Quiet.refl s with eye := e, cars := h }

theorem Quiet.setTrain {s : State} {x : List Car} (h : x.map Car.fixed = s.ts.train.map Car.fixed) : Quiet s (s.setTrain x) :=
  Quiet.setTs (by exact ⟨rfl, rfl, rfl, rfl, rfl, rfl, rfl, rfl, rfl⟩) (h ▸ List.Sublist.refl _)

theorem map_set_of_eq {α β : Type} {g : α → β} {l : List α} {i : Nat} {a b : α} (h : l[i]? = some a) (e : g b = g a) :
    (l.set i b).map g = l.map g := by
  rw [List.map_set, e, ← List.map_set]
  congr 1
  apply List.ext_getElem?
  intro j
  rw [List.getElem?_set]
  split
  · subst_vars
    split
    · exact h.symm
    · simp_all
  · rfl

theorem Quiet.setChannel {s : State} {i : Nat} {a b : Channel} (h : s.ss[i]? = some a) (e : b.fixed = a.fixed) :
    Quiet s (s.setChannel i b) := Quiet.setSs (map_set_of_eq h e)

/-! ### The transmit queue and causes -/

theorem LinePort.hand_inHand (lp : LinePort) (f : Queued) : (lp.hand f).inHand = lp.inHand := by
  unfold LinePort.hand; split_ifs <;> rfl

theorem LinePort.hand_failures (lp : LinePort) (f : Queued) : (lp.hand f).failures = lp.failures := by
  unfold LinePort.hand; split_ifs <;> rfl

theorem queue_quiet (s : State) (f : Frame) : Quiet s (s.queue f) :=
  Quiet.setLp ⟨LinePort.hand_inHand _ _, LinePort.hand_failures _ _⟩

theorem raise_quiet (s : State) (c : Cause) : Quiet s (s.raise c) := by
  unfold State.raise
  dsimp only
  split_ifs
  · exact Quiet.refl s
  · exact (Quiet.setHc s _).trans (queue_quiet _ _)
  · exact Quiet.setHc s _

theorem releaseCause_quiet (s : State) (c : Cause) : Quiet s (s.releaseCause c) := by
  unfold State.releaseCause
  split_ifs
  · exact (Quiet.setHc s _).trans (queue_quiet _ _)
  · exact Quiet.refl s

/-! ### Progress and windows -/

theorem updateCar_fixed {t : Ticket} {f : Car → Car} (h : ∀ c, (f c).fixed = c.fixed) (cars : List Car) :
    (updateCar t f cars).map Car.fixed = cars.map Car.fixed := by
  simp only [updateCar, List.map_map]
  apply List.map_congr_left
  intro c _
  simp only [Function.comp]
  split_ifs <;> simp [h]

theorem modifyEntry_fixed (c : Car) (i : Nat) (f : ProgressEntry → ProgressEntry) : (c.modifyEntry i f).fixed = c.fixed := rfl

theorem judgeTicket_fixed (ch : Channel) (i lmax : Nat) (t : Ticket) (cars : List Car) :
    (judgeTicket ch i lmax t cars).map Car.fixed = cars.map Car.fixed :=
  updateCar_fixed (f := ch.judge i lmax) (fun _ => rfl) cars

theorem closeWindow_fixed (i lmax : Nat) (t : Ticket) (x : Channel × List Car) :
    (closeWindow i lmax t x).1.fixed = x.1.fixed ∧ (closeWindow i lmax t x).2.map Car.fixed = x.2.map Car.fixed := by
  unfold closeWindow
  dsimp only
  split_ifs
  all_goals refine ⟨rfl, ?_⟩
  all_goals first
    | exact judgeTicket_fixed _ _ _ _ _
    | (split <;> first
        | rfl
        | exact judgeTicket_fixed _ _ _ _ _
        | exact (judgeTicket_fixed _ _ _ _ _).trans (judgeTicket_fixed _ _ _ _ _))

theorem closeIfDue_fixed (i : Nat) (p : Pulse) (lmax : Nat) (x : Channel × List Car) (t : Ticket) :
    (closeIfDue i p lmax x t).1.fixed = x.1.fixed ∧ (closeIfDue i p lmax x t).2.map Car.fixed = x.2.map Car.fixed := by
  unfold closeIfDue
  split
  · split_ifs
    · exact closeWindow_fixed i lmax t x
    · exact ⟨rfl, rfl⟩
  · exact ⟨rfl, rfl⟩

theorem openIfDue_fixed (i : Nat) (p : Pulse) (lmax : Nat) (x : Channel × List Car) (t : Ticket) :
    (openIfDue i p lmax x t).1.fixed = x.1.fixed ∧ (openIfDue i p lmax x t).2.map Car.fixed = x.2.map Car.fixed := by
  unfold openIfDue
  split
  · split_ifs
    · refine ⟨(closeIfDue_fixed i p lmax _ t).1, (closeIfDue_fixed i p lmax _ t).2.trans ?_⟩
      exact updateCar_fixed (modifyEntry_fixed · i _) x.2
    · exact ⟨rfl, rfl⟩
  · exact ⟨rfl, rfl⟩

theorem examineCars_fixed {step : Channel × List Car → Ticket → Channel × List Car}
    (h : ∀ x t, (step x t).1.fixed = x.1.fixed ∧ (step x t).2.map Car.fixed = x.2.map Car.fixed) (ts : List Ticket)
    (x : Channel × List Car) :
    (examineCars step ts x).1.fixed = x.1.fixed ∧ (examineCars step ts x).2.map Car.fixed = x.2.map Car.fixed :=
  foldl_rel (r := fun a b : Channel × List Car => b.1.fixed = a.1.fixed ∧ b.2.map Car.fixed = a.2.map Car.fixed)
    (fun _ => ⟨rfl, rfl⟩) (fun a b => ⟨b.1.trans a.1, b.2.trans a.2⟩) h ts x

/-! ### REPORTs -/

theorem reportCar_quiet (s : State) (t : Ticket) : Quiet s (s.reportCar t) := by
  unfold State.reportCar
  split
  · split_ifs
    · refine Quiet.trans (Quiet.setTrain ?_) (queue_quiet _ _)
      exact updateCar_fixed (f := fun c => { c with reported := true }) (fun _ => rfl) _
    · exact Quiet.refl s
  · exact Quiet.refl s

theorem flushReports_quiet (s : State) : Quiet s s.flushReports := foldl_quiet reportCar_quiet _ s

/-! ### Channel states -/

theorem refreshBrush_fixed (s : State) (i : Nat) (ch : Channel) : (s.refreshBrush i ch).fixed = ch.fixed := by
  unfold State.refreshBrush
  dsimp only
  split <;> (try split_ifs) <;> rfl

theorem refreshSpray_fixed (s : State) (r : Bool) (i : Nat) (ch : Channel) : (s.refreshSpray r i ch).fixed = ch.fixed := by
  unfold State.refreshSpray
  dsimp only
  split <;> (try split_ifs) <;> rfl

theorem refreshDryer_fixed (s : State) (i : Nat) (ch : Channel) : (s.refreshDryer i ch).fixed = ch.fixed := by
  unfold State.refreshDryer
  dsimp only
  split <;> (try split_ifs) <;> rfl

theorem refresh_quiet (s : State) (r : Bool) (i : Nat) : Quiet s (s.refresh r i) := by
  unfold State.refresh
  split
  · exact Quiet.refl s
  · next ch h =>
    split
    · exact Quiet.setChannel h (refreshSpray_fixed s r i ch)
    · exact Quiet.setChannel h (refreshDryer_fixed s i ch)
    · dsimp only
      have k := Quiet.setChannel h (refreshBrush_fixed s i ch)
      split_ifs
      · exact k.trans (raise_quiet _ _)
      · exact k

theorem eachChannel_quiet {f : State → Nat → State} (h : ∀ s i, Quiet s (f s i)) (s : State) : Quiet s (s.eachChannel f) :=
  foldl_quiet h _ s

theorem refreshAll_quiet (s : State) (r : Bool) : Quiet s (s.refreshAll r) := eachChannel_quiet (fun s i => refresh_quiet s r i) s

theorem withExamined_quiet {s : State} {i : Nat} {ch : Channel} {x : Channel × List Car} (h : s.ss[i]? = some ch)
    (e : x.1.fixed = ch.fixed ∧ x.2.map Car.fixed = s.ts.train.map Car.fixed) : Quiet s (s.withExamined i x) :=
  (Quiet.setChannel h e.1).trans (Quiet.setTrain e.2)

theorem refresh_flush_quiet (s : State) (r : Bool) (i : Nat) : Quiet s (s.refresh r i).flushReports :=
  (refresh_quiet s r i).trans (flushReports_quiet _)

theorem examineOpenAt_quiet (ts : List Ticket) (s : State) (i : Nat) : Quiet s (State.examineOpenAt ts s i) := by
  unfold State.examineOpenAt
  split
  · exact Quiet.refl s
  · next ch h =>
    exact (withExamined_quiet h (examineCars_fixed (fun x t => openIfDue_fixed i _ _ x t) ts (ch, s.ts.train))).trans
      (refresh_flush_quiet _ _ _)

theorem examineOpen_quiet (s : State) (ts : List Ticket) : Quiet s (s.examineOpen ts) :=
  (eachChannel_quiet (examineOpenAt_quiet ts) s).trans (flushReports_quiet _)

theorem examineLengthAt_quiet (t : Ticket) (s : State) (i : Nat) : Quiet s (State.examineLengthAt t s i) := by
  unfold State.examineLengthAt
  split
  · exact Quiet.refl s
  · next ch h => exact (withExamined_quiet h (closeIfDue_fixed i _ _ (ch, s.ts.train) t)).trans (refresh_flush_quiet _ _ _)

theorem examineLength_quiet (s : State) (t : Ticket) : Quiet s (s.examineLength t) :=
  eachChannel_quiet (examineLengthAt_quiet t) s

theorem examinePulseAt_quiet (s : State) (i : Nat) : Quiet s (s.examinePulseAt i) := by
  unfold State.examinePulseAt
  split
  · exact Quiet.refl s
  · next ch h =>
    dsimp only
    refine (withExamined_quiet h ?_).trans (refresh_flush_quiet _ _ _)
    have a := examineCars_fixed (fun x t => openIfDue_fixed i s.pc.p s.cl.constants.lmax x t) (ticketsOf s.ts.train)
      (examineCars (closeIfDue i s.pc.p s.cl.constants.lmax) (ticketsOf s.ts.train)
        (ch, s.ts.train.map (ch.countPulse i s.pc.p s.cl.constants.lmax)))
    have b := examineCars_fixed (fun x t => closeIfDue_fixed i s.pc.p s.cl.constants.lmax x t) (ticketsOf s.ts.train)
      (ch, s.ts.train.map (ch.countPulse i s.pc.p s.cl.constants.lmax))
    refine ⟨a.1.trans b.1, (a.2.trans b.2).trans ?_⟩
    simp only [List.map_map]
    apply List.map_congr_left
    intro c _
    simp only [Function.comp, Channel.countPulse]
    split_ifs <;> rfl

theorem examinePulse_quiet (s : State) : Quiet s s.examinePulse := eachChannel_quiet examinePulseAt_quiet s

theorem suspendAt_quiet (s : State) (i : Nat) : Quiet s (s.suspendAt i) := by
  unfold State.suspendAt
  split
  · exact Quiet.refl s
  · next ch h =>
    dsimp only
    refine Quiet.trans (Quiet.setChannel h (by rfl)) (Quiet.setTrain ?_)
    simp only [State.setChannel_ts]
    split
    · exact judgeTicket_fixed _ _ _ _ _
    · rfl

theorem suspendAll_quiet (s : State) : Quiet s s.suspendAll := (eachChannel_quiet suspendAt_quiet s).trans (flushReports_quiet _)

theorem takeUpAt_quiet (s : State) (i : Nat) : Quiet s (s.takeUpAt i) := by
  unfold State.takeUpAt
  split
  · exact Quiet.refl s
  · next ch h =>
    dsimp only
    refine Quiet.setChannel h ?_
    split
    · split_ifs <;> rfl
    · rfl
    · rfl

theorem takeUpAll_quiet (s : State) : Quiet s s.takeUpAll := eachChannel_quiet takeUpAt_quiet s

/-! ### Removal and retirement -/

theorem forgetCar_quiet (s : State) (t : Ticket) : Quiet s (s.forgetCar t) := by
  unfold State.forgetCar
  refine (Quiet.setSs ?_).trans (refreshAll_quiet _ _)
  simp only [List.map_map]
  apply List.map_congr_left
  intro c _
  simp only [Function.comp]
  split_ifs <;> rfl

theorem removeCar_quiet (s : State) (t : Ticket) : Quiet s (s.removeCar t) := by
  unfold State.removeCar
  split_ifs
  · refine Quiet.trans (Quiet.setTs (by exact ⟨rfl, rfl, rfl, rfl, rfl, rfl, rfl, rfl, rfl⟩) ?_) (forgetCar_quiet _ _)
    exact List.Sublist.map _ List.filter_sublist
  · exact Quiet.refl s

theorem retireCar_quiet (s : State) (t : Ticket) : Quiet s (s.retireCar t) := by
  unfold State.retireCar
  split
  · split_ifs
    · exact removeCar_quiet s t
    · exact Quiet.refl s
  · exact Quiet.refl s

theorem retireAll_quiet (s : State) : Quiet s s.retireAll := foldl_quiet retireCar_quiet _ s

theorem retireEnded_quiet (before after : State) : Quiet after (State.retireEnded before after) :=
  foldl_quiet (fun s t => by
    show Quiet s (if s.heldByRunOn t then s else s.retireCar t)
    split_ifs
    · exact Quiet.refl s
    · exact retireCar_quiet s t) _ after

theorem retireServed_quiet (before after : State) : Quiet after (before.retireServed after) :=
  foldl_quiet (fun s t => by
    show Quiet s (if before.runOnOver after t then s.retireCar t else s)
    split_ifs
    · exact retireCar_quiet s t
    · exact Quiet.refl s) _ after

/-! ### Water -/

theorem syncFlow_quiet (s : State) : Quiet s s.syncFlow := by
  unfold State.syncFlow
  split_ifs
  · exact Quiet.refl s
  · exact (Quiet.setFb s _).trans (queue_quiet _ _)

theorem foldl_takeUpAt_quiet (l : List Nat) (s : State) : Quiet s (l.foldl State.takeUpAt s) := foldl_quiet takeUpAt_quiet l s

theorem returnSprays_quiet (s : State) : Quiet s s.returnSprays := by
  unfold State.returnSprays
  refine ((Quiet.setSs ?_).trans (foldl_takeUpAt_quiet _ _)).trans (syncFlow_quiet _)
  simp only [List.map_map]
  apply List.map_congr_left
  intro c _
  simp only [Function.comp]
  split_ifs <;> rfl

theorem cancelPurge_quiet (s : State) : Quiet s s.cancelPurge := Quiet.setPs (by exact ⟨rfl, rfl, rfl⟩)

theorem retrySprays_quiet (s : State) : Quiet s s.retrySprays := by
  refine eachChannel_quiet (fun s i => ?_) s
  unfold State.retryAt
  split
  · split_ifs
    · exact refresh_quiet _ _ _
    · exact Quiet.refl s
  · exact Quiet.refl s

theorem startPurge_quiet (s : State) (k : PurgeState) : Quiet s (s.startPurge k) := by
  unfold State.startPurge
  refine Quiet.trans (Quiet.trans (Quiet.trans (Quiet.trans (Quiet.setPs (by exact ⟨rfl, rfl, rfl⟩)) (Quiet.setTrain ?_)) (Quiet.setSs ?_))
    (flushReports_quiet _)) (syncFlow_quiet _)
  · simp only [State.setPs_ts]
    split_ifs
    · simp only [List.map_map]
      apply List.map_congr_left
      intro c _
      exact foldl_rel (r := fun a b : Car => b.fixed = a.fixed) (fun _ => rfl) (fun a b => b.trans a)
        (fun d i => modifyEntry_fixed d i _) _ c
    · rfl
  · simp only [State.setTrain_ss, State.setPs_ss, List.map_map]
    apply List.map_congr_left
    intro c _
    simp only [Function.comp]
    split_ifs <;> rfl

theorem forcedTest_quiet (s : State) : Quiet s s.forcedTest := by
  unfold State.forcedTest
  split_ifs
  · exact startPurge_quiet s _
  · exact Quiet.refl s

theorem startTest_quiet (s : State) : Quiet s s.startTest := by
  unfold State.startTest
  split_ifs
  · exact startPurge_quiet s _
  · exact Quiet.refl s

theorem shedOnce_quiet (s : State) : Quiet s s.shedOnce := by
  unfold State.shedOnce
  split_ifs
  · exact ((cancelPurge_quiet s).trans (returnSprays_quiet _)).trans (forcedTest_quiet _)
  · split
    · split
      · next ch h => exact (Quiet.setChannel h (by rfl)).trans (syncFlow_quiet _)
      · exact Quiet.refl s
    · exact Quiet.refl s

theorem shedTest_quiet (n : Nat) (s : State) : Quiet s (s.shedTest n) := by
  induction n generalizing s with
  | zero => exact Quiet.refl s
  | succ n ih =>
    unfold State.shedTest
    split_ifs
    · exact (shedOnce_quiet s).trans (ih _)
    · exact Quiet.refl s

/-! ### The gate -/

theorem updateHead_quiet {f : Sale → Sale} (h : ∀ x, (f x).fixed = x.fixed) (s : State) (l : Lane) :
    Quiet s (s.updateHead l f) := by
  unfold State.updateHead
  split
  · exact Quiet.refl s
  · next x xs e =>
    refine { Quiet.refl s with sales := ?_, queues := ?_ }
    · refine ⟨by simp, by simp, by simp, by simp, fun m => ?_⟩
      by_cases hm : m = l
      · subst hm; simp
      · simp [SalesUnit.lane_setLane_other, hm]
    · intro m
      by_cases hm : m = l
      · subst hm; simp [e, h]
      · simp [SalesUnit.lane_setLane_other, hm]

theorem beginCall_quiet (s : State) (l : Lane) : Quiet s (s.beginCall l) :=
  Quiet.trans (Quiet.setAc (by exact ⟨rfl, rfl⟩)) (updateHead_quiet (f := fun x => { x with state := .called }) (fun _ => rfl) _ l)

theorem callTest_quiet (s : State) : Quiet s s.callTest := by
  unfold State.callTest
  split_ifs
  · split
    · exact beginCall_quiet s _
    · exact Quiet.refl s
  · exact Quiet.refl s

theorem withdrawCall_quiet (s : State) : Quiet s s.withdrawCall := by
  unfold State.withdrawCall
  split
  · exact Quiet.trans (Quiet.setAc (by exact ⟨rfl, rfl⟩)) (updateHead_quiet (f := fun x => { x with state := .paid }) (fun _ => rfl) _ _)
  · exact Quiet.refl s

/-! ### The stages -/

theorem wakeStage_quiet (s : State) (o : Occasion) (before : State) : Quiet s (s.wakeStage o before) := by
  unfold State.wakeStage
  split_ifs
  · exact ((Quiet.setRunState s _).trans (examineOpen_quiet _ _)).trans (retireServed_quiet _ _)
  · exact Quiet.refl s

theorem enterHalt_quiet (s : State) : Quiet s s.enterHalt := by
  unfold State.enterHalt
  have h := ((Quiet.setHc s { s.hc with stop := Pace.load s.cl.constants.stopWindow }).trans (suspendAll_quiet _)).trans
    (retireEnded_quiet (s.setHc { s.hc with stop := Pace.load s.cl.constants.stopWindow }) _)
  dsimp only
  split_ifs
  · exact h
  · exact h.trans (cancelPurge_quiet _)

theorem leaveHalt_quiet (s : State) : Quiet s s.leaveHalt :=
  (((Quiet.setHc s _).trans (takeUpAll_quiet _)).trans (syncFlow_quiet _)).trans (forcedTest_quiet _)

theorem gradeStage_quiet (s before : State) : Quiet s (s.gradeStage before) := by
  unfold State.gradeStage State.withdrawStage
  dsimp only
  have h : Quiet s (if !before.halted && s.halted then s.enterHalt else if before.halted && !s.halted then s.leaveHalt else s) := by
    split_ifs
    · exact enterHalt_quiet s
    · exact leaveHalt_quiet s
    · exact Quiet.refl s
  generalize (if !before.halted && s.halted then s.enterHalt else if before.halted && !s.halted then s.leaveHalt else s) = u at h ⊢
  split_ifs
  · exact h.trans (withdrawCall_quiet u)
  · exact h

theorem ite_quiet {c : Prop} [Decidable c] {s a b : State} (ha : Quiet s a) (hb : Quiet s b) : Quiet s (if c then a else b) := by
  split_ifs
  · exact ha
  · exact hb

theorem waterStage_quiet (s : State) (o : Occasion) (before : State) : Quiet s (s.waterStage o before) := by
  unfold State.waterStage
  refine ite_quiet (Quiet.refl s) ?_
  have h1 := syncFlow_quiet s
  have h2 := ite_quiet (c := (o.claims || s.syncFlow.fb != before.fb) = true)
    (h1.trans (shedTest_quiet s.syncFlow.shedBound s.syncFlow)) h1
  have h3 := ite_quiet (c := o.claims = true) (h2.trans ((retrySprays_quiet _).trans (syncFlow_quiet _))) h2
  exact ite_quiet (h3.trans (startTest_quiet _)) h3

theorem syncFlagStage_quiet (s : State) (o : Occasion) (before : State) : Quiet s (s.syncFlagStage o before) := by
  unfold State.syncFlagStage
  split_ifs
  · exact Quiet.setTs (by exact ⟨rfl, rfl, rfl, rfl, rfl, rfl, rfl, rfl, rfl⟩) (List.Sublist.refl _)
  · exact Quiet.refl s

theorem resetSkip_quiet (s before : State) (l : Lane) : Quiet s (s.resetSkip before l) := by
  unfold State.resetSkip
  split_ifs
  · exact Quiet.refl s
  · exact Quiet.setAc ⟨by simp, by simp⟩

theorem lowerLimit_quiet (s before : State) : Quiet s (s.lowerLimit before) := by
  unfold State.lowerLimit
  split_ifs
  · exact Quiet.setAc (by exact ⟨rfl, rfl⟩)
  · exact Quiet.refl s

theorem gateStage_quiet (s : State) (o : Occasion) (before : State) : Quiet s (s.gateStage o before) := by
  unfold State.gateStage
  split_ifs with hr
  · exact Quiet.refl s
  · dsimp only
    have h := ((lowerLimit_quiet s before).trans (resetSkip_quiet _ before .a)).trans (resetSkip_quiet _ before .b)
    generalize ((s.lowerLimit before).resetSkip before .a).resetSkip before .b = s1 at h ⊢
    split_ifs
    · exact h.trans (callTest_quiet _)
    · exact h

theorem idleStage_quiet (s before : State) : Quiet s (s.idleStage before) := by
  unfold State.idleStage
  split_ifs
  · exact Quiet.setHc s _
  · exact Quiet.setHc s _
  · exact Quiet.refl s

/-- All that the end of an action can do leaves the blocks outside its readers, SU's sales, the eye, and the fixed fields of the
channels and of the cars that stay as they were. -/
theorem settle_quiet (o : Occasion) (before s : State) : Quiet s (State.settle o before s) := by
  unfold State.settle
  split_ifs
  · exact (((((wakeStage_quiet s o before).trans (gradeStage_quiet _ before)).trans (waterStage_quiet _ o before)).trans
      (syncFlagStage_quiet _ o before)).trans (gateStage_quiet _ o before)).trans (idleStage_quiet _ before)
  · exact Quiet.refl s

theorem act_quiet {f : State → State} (o : Occasion) (before s : State) (h : Quiet s (f s)) :
    Quiet s (State.act o before f s) := by
  unfold State.act
  split_ifs
  · exact h.trans (settle_quiet o before _)
  · exact Quiet.refl s

end Sys2Proof.Machine
end

