-- ==== Sys2Proof/Laws/Causes.lean ====
section
/-! SUPPORT. What the end of an action can do to the own set and to the run state: it raises STALL at most, and it takes STANDBY
back to RUN at most (`settle_calm`). With these stand the small lemmas of cause sets. -/

namespace Sys2Proof.Machine

open Sys2Proof

/-! ### Cause sets -/

theorem hasCause_addCause (x : CauseSet) (c k : Cause) : hasCause (addCause x c) k = (hasCause x k || (k == c)) := by
  unfold hasCause addCause Cause.bit
  rw [BitVec.getLsbD_or]
  cases c <;> cases k <;> rfl

theorem hasCause_dropCause (x : CauseSet) (c k : Cause) : hasCause (dropCause x c) k = (hasCause x k && (k != c)) := by
  unfold hasCause dropCause Cause.bit
  rw [BitVec.getLsbD_and]
  congr 1
  cases c <;> cases k <;> rfl

@[simp] theorem hasCause_addCause_self (x : CauseSet) (c : Cause) : hasCause (addCause x c) c = true := by
  simp [hasCause_addCause]

@[simp] theorem hasCause_dropCause_self (x : CauseSet) (c : Cause) : hasCause (dropCause x c) c = false := by
  simp [hasCause_dropCause]

/-! ### Raising and releasing -/

@[simp] theorem State.queue_owns (s : State) (f : Frame) (k : Cause) : (s.queue f).owns k = s.owns k := rfl

theorem raise_owns (s : State) (c k : Cause) : (s.raise c).owns k = (s.owns k || (k == c)) := by
  unfold State.raise
  dsimp only
  split_ifs with h h'
  · by_cases e : k = c
    · subst e; simp [h]
    · simp [beq_eq_false_iff_ne.mpr e]
  · exact hasCause_addCause s.hc.own c k
  · exact hasCause_addCause s.hc.own c k

theorem releaseCause_owns (s : State) (c k : Cause) : (s.releaseCause c).owns k = (s.owns k && (k != c)) := by
  unfold State.releaseCause
  split_ifs with h
  · exact hasCause_dropCause s.hc.own c k
  · by_cases e : k = c
    · subst e; simp [h]
    · simp [bne_iff_ne.mpr e]

/-- Raising a cause writes the own set and the transmit queue alone. -/
theorem raise_runState (s : State) (c : Cause) : (s.raise c).hc.runState = s.hc.runState := by
  unfold State.raise
  dsimp only
  split_ifs <;> rfl

/-! ### What the readers of a change do to HC -/

/-- From s to t no cause but STALL has come or gone, STALL has not gone, and the run state has moved from STANDBY to RUN at
most. -/
structure Calm (s t : State) : Prop where
  causes : ∀ k : Cause, k ≠ .stall → t.owns k = s.owns k
  stall : s.owns .stall = true → t.owns .stall = true
  runState : t.hc.runState = s.hc.runState ∨ (s.hc.runState = .standby ∧ t.hc.runState = .run)

theorem Calm.refl (s : State) : Calm s s := ⟨fun _ _ => rfl, id, .inl rfl⟩

theorem Calm.trans {s t u : State} (h : Calm s t) (k : Calm t u) : Calm s u where
  causes c hc := (k.causes c hc).trans (h.causes c hc)
  stall e := k.stall (h.stall e)
  runState := by
    rcases h.runState with a | ⟨a, b⟩ <;> rcases k.runState with c | ⟨c, d⟩
    · exact .inl (c.trans a)
    · exact .inr ⟨a ▸ c, d⟩
    · exact .inr ⟨a, c.trans b⟩
    · rw [b] at c; exact absurd c (by decide)

/-- A change that leaves HC alone. -/
theorem Calm.of_hc {s t : State} (h : t.hc = s.hc) : Calm s t where
  causes k _ := by unfold State.owns; rw [h]
  stall e := by unfold State.owns at e ⊢; rw [h]; exact e
  runState := .inl (by rw [h])

/-- A change of HC's counters alone. -/
theorem Calm.of_counters {s t : State} (h : t.hc.own = s.hc.own) (r : t.hc.runState = s.hc.runState) : Calm s t where
  causes k _ := by unfold State.owns; rw [h]
  stall e := by unfold State.owns at e ⊢; rw [h]; exact e
  runState := .inl r

theorem foldl_calm {α : Type} {f : State → α → State} (step : ∀ s a, Calm s (f s a)) (l : List α) (s : State) :
    Calm s (l.foldl f s) := foldl_rel Calm.refl Calm.trans step l s

theorem ite_calm {c : Prop} [Decidable c] {s a b : State} (ha : Calm s a) (hb : Calm s b) : Calm s (if c then a else b) := by
  split_ifs
  · exact ha
  · exact hb

theorem raise_stall_calm (s : State) : Calm s (s.raise .stall) where
  causes k hk := by rw [raise_owns]; simp [hk]
  stall e := by rw [raise_owns]; simp
  runState := .inl (raise_runState s _)

theorem reportCar_calm (s : State) (t : Ticket) : Calm s (s.reportCar t) := by
  unfold State.reportCar
  split
  · exact ite_calm (Calm.of_hc (by rfl)) (Calm.refl s)
  · exact Calm.refl s

theorem flushReports_calm (s : State) : Calm s s.flushReports := foldl_calm reportCar_calm _ s

theorem refresh_calm (s : State) (r : Bool) (i : Nat) : Calm s (s.refresh r i) := by
  unfold State.refresh
  split
  · exact Calm.refl s
  · split
    · exact Calm.of_hc (by rfl)
    · exact Calm.of_hc (by rfl)
    · exact ite_calm (Calm.trans (Calm.of_hc (by rfl)) (raise_stall_calm _)) (Calm.of_hc (by rfl))

theorem refresh_flush_calm (s : State) (r : Bool) (i : Nat) : Calm s (s.refresh r i).flushReports :=
  (refresh_calm s r i).trans (flushReports_calm _)

theorem eachChannel_calm {f : State → Nat → State} (h : ∀ s i, Calm s (f s i)) (s : State) : Calm s (s.eachChannel f) :=
  foldl_calm h _ s

theorem refreshAll_calm (s : State) (r : Bool) : Calm s (s.refreshAll r) := eachChannel_calm (fun s i => refresh_calm s r i) s

theorem examineOpen_calm (s : State) (ts : List Ticket) : Calm s (s.examineOpen ts) := by
  refine Calm.trans (eachChannel_calm (fun s i => ?_) s) (flushReports_calm _)
  unfold State.examineOpenAt
  split
  · exact Calm.refl s
  · exact Calm.trans (Calm.of_hc (by rfl)) (refresh_flush_calm _ _ _)

theorem examineLength_calm (s : State) (t : Ticket) : Calm s (s.examineLength t) := by
  refine eachChannel_calm (fun s i => ?_) s
  unfold State.examineLengthAt
  split
  · exact Calm.refl s
  · exact Calm.trans (Calm.of_hc (by rfl)) (refresh_flush_calm _ _ _)

theorem examinePulse_calm (s : State) : Calm s s.examinePulse := by
  refine eachChannel_calm (fun s i => ?_) s
  unfold State.examinePulseAt
  split
  · exact Calm.refl s
  · exact Calm.trans (Calm.of_hc (by rfl)) (refresh_flush_calm _ _ _)

theorem suspendAll_calm (s : State) : Calm s s.suspendAll := by
  refine Calm.trans (eachChannel_calm (fun s i => ?_) s) (flushReports_calm _)
  unfold State.suspendAt
  split
  · exact Calm.refl s
  · exact Calm.of_hc (by rfl)

theorem takeUpAt_calm (s : State) (i : Nat) : Calm s (s.takeUpAt i) := by
  unfold State.takeUpAt
  split
  · exact Calm.refl s
  · exact Calm.of_hc (by rfl)

theorem takeUpAll_calm (s : State) : Calm s s.takeUpAll := eachChannel_calm takeUpAt_calm s

theorem removeCar_calm (s : State) (t : Ticket) : Calm s (s.removeCar t) := by
  unfold State.removeCar
  exact ite_calm (Calm.trans (Calm.of_hc (by rfl)) (refreshAll_calm _ _)) (Calm.refl s)

theorem retireCar_calm (s : State) (t : Ticket) : Calm s (s.retireCar t) := by
  unfold State.retireCar
  split
  · exact ite_calm (removeCar_calm s t) (Calm.refl s)
  · exact Calm.refl s

theorem retireAll_calm (s : State) : Calm s s.retireAll := foldl_calm retireCar_calm _ s

theorem retireEnded_calm (before after : State) : Calm after (State.retireEnded before after) :=
  foldl_calm (fun s t => ite_calm (Calm.refl s) (retireCar_calm s t)) _ after

theorem retireServed_calm (before after : State) : Calm after (before.retireServed after) :=
  foldl_calm (fun s t => ite_calm (retireCar_calm s t) (Calm.refl s)) _ after

theorem syncFlow_calm (s : State) : Calm s s.syncFlow := by
  unfold State.syncFlow
  exact ite_calm (Calm.refl s) (Calm.of_hc (by rfl))

theorem returnSprays_calm (s : State) : Calm s s.returnSprays := by
  unfold State.returnSprays
  exact Calm.trans (Calm.trans (Calm.of_hc (by rfl)) (foldl_calm takeUpAt_calm _ _)) (syncFlow_calm _)

theorem cancelPurge_calm (s : State) : Calm s s.cancelPurge := Calm.of_hc (by rfl)

theorem retrySprays_calm (s : State) : Calm s s.retrySprays := by
  refine eachChannel_calm (fun s i => ?_) s
  unfold State.retryAt
  split
  · exact ite_calm (refresh_calm _ _ _) (Calm.refl s)
  · exact Calm.refl s

theorem startPurge_calm (s : State) (k : PurgeState) : Calm s (s.startPurge k) := by
  unfold State.startPurge
  exact Calm.trans (Calm.trans (Calm.of_hc (by rfl)) (flushReports_calm _)) (syncFlow_calm _)

theorem forcedTest_calm (s : State) : Calm s s.forcedTest := by
  unfold State.forcedTest
  exact ite_calm (startPurge_calm s _) (Calm.refl s)

theorem startTest_calm (s : State) : Calm s s.startTest := by
  unfold State.startTest
  exact ite_calm (startPurge_calm s _) (Calm.refl s)

theorem shedOnce_calm (s : State) : Calm s s.shedOnce := by
  unfold State.shedOnce
  refine ite_calm (((cancelPurge_calm s).trans (returnSprays_calm _)).trans (forcedTest_calm _)) ?_
  split
  · split
    · exact Calm.trans (Calm.of_hc (by rfl)) (syncFlow_calm _)
    · exact Calm.refl s
  · exact Calm.refl s

theorem shedTest_calm (n : Nat) (s : State) : Calm s (s.shedTest n) := by
  induction n generalizing s with
  | zero => exact Calm.refl s
  | succ n ih =>
    unfold State.shedTest
    exact ite_calm ((shedOnce_calm s).trans (ih _)) (Calm.refl s)

theorem updateHead_calm (f : Sale → Sale) (s : State) (l : Lane) : Calm s (s.updateHead l f) := by
  unfold State.updateHead
  split
  · exact Calm.refl s
  · exact Calm.of_hc (by rfl)

theorem callTest_calm (s : State) : Calm s s.callTest := by
  unfold State.callTest
  refine ite_calm ?_ (Calm.refl s)
  split
  · exact Calm.trans (Calm.of_hc (by rfl)) (updateHead_calm _ _ _)
  · exact Calm.refl s

theorem withdrawCall_calm (s : State) : Calm s s.withdrawCall := by
  unfold State.withdrawCall
  split
  · exact Calm.trans (Calm.of_hc (by rfl)) (updateHead_calm _ _ _)
  · exact Calm.refl s

/-- At the end of an action HC's own set gains STALL at most, and its run state moves from STANDBY to RUN at most. -/
theorem settle_calm (o : Occasion) (before s : State) : Calm s (State.settle o before s) := by
  have wake : ∀ u : State, Calm u (u.wakeStage o before) := fun u => by
    unfold State.wakeStage
    split_ifs with h
    · simp only [Bool.and_eq_true, beq_iff_eq] at h
      have moved : Calm u (u.setRunState .run) := ⟨fun _ _ => rfl, id, .inr ⟨h.1, rfl⟩⟩
      exact (moved.trans (examineOpen_calm _ _)).trans (retireServed_calm _ _)
    · exact Calm.refl u
  have halt : ∀ u : State, Calm u u.enterHalt := fun u => by
    have h := ((Calm.of_counters (s := u) (t := u.setHc { u.hc with stop := Pace.load u.cl.constants.stopWindow }) (by rfl) (by rfl)).trans
      (suspendAll_calm _)).trans (retireEnded_calm (u.setHc { u.hc with stop := Pace.load u.cl.constants.stopWindow }) _)
    exact ite_calm h (h.trans (cancelPurge_calm _))
  have leave : ∀ u : State, Calm u u.leaveHalt := fun u => by
    unfold State.leaveHalt
    exact Calm.trans (Calm.trans (Calm.trans (Calm.of_counters (by rfl) (by rfl)) (takeUpAll_calm _)) (syncFlow_calm _)) (forcedTest_calm _)
  have grade : ∀ u : State, Calm u (u.gradeStage before) := fun u => by
    have h := ite_calm (c := (!before.halted && u.halted) = true) (halt u)
      (ite_calm (c := (before.halted && !u.halted) = true) (leave u) (Calm.refl u))
    exact ite_calm (h.trans (withdrawCall_calm _)) h
  have water : ∀ u : State, Calm u (u.waterStage o before) := fun u => by
    refine ite_calm (Calm.refl u) ?_
    have h1 := syncFlow_calm u
    have h2 := ite_calm (c := (o.claims || u.syncFlow.fb != before.fb) = true) (h1.trans (shedTest_calm u.syncFlow.shedBound _)) h1
    have h3 := ite_calm (c := o.claims = true) (h2.trans ((retrySprays_calm _).trans (syncFlow_calm _))) h2
    exact ite_calm (h3.trans (startTest_calm _)) h3
  have flag : ∀ u : State, Calm u (u.syncFlagStage o before) := fun u => ite_calm (Calm.of_hc (by rfl)) (Calm.refl u)
  have gate : ∀ u : State, Calm u (u.gateStage o before) := fun u => by
    refine ite_calm (Calm.refl u) ?_
    have h1 : Calm u (u.lowerLimit before) := ite_calm (Calm.of_hc (by rfl)) (Calm.refl u)
    have hs : ∀ (v : State) (l : Lane), Calm v (v.resetSkip before l) := fun v l => ite_calm (Calm.refl v) (Calm.of_hc (by rfl))
    have h2 := (h1.trans (hs _ .a)).trans (hs _ .b)
    exact ite_calm (h2.trans (callTest_calm _)) h2
  have idle : ∀ u : State, Calm u (u.idleStage before) := fun u =>
    ite_calm (Calm.of_counters (by rfl) (by rfl)) (ite_calm (Calm.of_counters (by rfl) (by rfl)) (Calm.refl u))
  exact ite_calm (((((wake s).trans (grade _)).trans (water _)).trans (flag _)).trans (gate _) |>.trans (idle _)) (Calm.refl s)

end Sys2Proof.Machine
end

