-- ==== Sys2Proof/Laws/Due.lean ====
section
/-! SUPPORT. What is due comes first: what the events before a command can do, and where a command's own effect begins. -/

namespace Sys2Proof.Machine

open Sys2Proof

/-- A command that waits for what is due begins where that leaves the part. -/
theorem afterDue_eq (s : State) (f : State → Result) : s.afterDue f = f s.deliverDue := rfl

@[simp] theorem before_of_first {c : Instr} (h : comesFirst c = true) (s : State) : s.before c = s := by
  unfold State.before
  rw [if_pos h]

@[simp] theorem before_of_not_first {c : Instr} (h : comesFirst c = false) (s : State) : s.before c = s.deliverDue := by
  unfold State.before
  rw [if_neg (by rw [h]; decide)]

/-- Every timed event is a command of the table, one that nothing comes before. -/
theorem timedEvents_are_commands : ∀ f ∈ timedEvents, ∃ c : Instr, comesFirst c = true ∧ ∀ s, f s = exec c s := by
  have channel : ∀ i : ChannelNo, ∀ f ∈ channelEvents i, ∃ c : Instr, comesFirst c = true ∧ ∀ s, f s = exec c s := by
    intro i f h
    simp only [channelEvents, List.mem_cons, List.not_mem_nil, or_false] at h
    rcases h with rfl | rfl | rfl | rfl | rfl | rfl
    · exact ⟨.thermalSustainExpiry i, rfl, fun _ => rfl⟩
    · exact ⟨.holdOffExpiry i, rfl, fun _ => rfl⟩
    · exact ⟨.hotTimerExpiry i, rfl, fun _ => rfl⟩
    · exact ⟨.idleTimerExpiry i, rfl, fun _ => rfl⟩
    · exact ⟨.brushDrivePeriod i, rfl, fun _ => rfl⟩
    · exact ⟨.runOnExpiry i, rfl, fun _ => rfl⟩
  intro f h
  simp only [timedEvents, List.mem_append, List.mem_cons, List.mem_flatMap, inputEvents, blockEvents, List.not_mem_nil,
    or_false] at h
  rcases h with ((h | h | h) | ⟨i, -, h⟩) | h
  · exact ⟨.syncAnswerStep, rfl, fun s => by rw [h]; rfl⟩
  · exact ⟨.speedWindowEnd, rfl, fun s => by rw [h]; rfl⟩
  · rcases h with rfl | rfl | rfl | rfl | rfl | rfl | rfl | rfl | rfl | rfl | rfl | rfl | rfl | rfl | rfl
    · exact ⟨.eyeBlockEdge, rfl, fun _ => rfl⟩
    · exact ⟨.eyeClearEdge, rfl, fun _ => rfl⟩
    · exact ⟨.estopFallingEdge, rfl, fun _ => rfl⟩
    · exact ⟨.estopRisingEdge, rfl, fun _ => rfl⟩
    · exact ⟨.pauseInputAsserted, rfl, fun _ => rfl⟩
    · exact ⟨.pauseInputDeasserted, rfl, fun _ => rfl⟩
    · exact ⟨.resumeKeyPress, rfl, fun _ => rfl⟩
    · exact ⟨.chemLowAsserted, rfl, fun _ => rfl⟩
    · exact ⟨.chemLowDeasserted, rfl, fun _ => rfl⟩
    · exact ⟨.freezeAsserted, rfl, fun _ => rfl⟩
    · exact ⟨.freezeDeasserted, rfl, fun _ => rfl⟩
    · exact ⟨.lanePresenceChange .a true, rfl, fun _ => rfl⟩
    · exact ⟨.lanePresenceChange .a false, rfl, fun _ => rfl⟩
    · exact ⟨.lanePresenceChange .b true, rfl, fun _ => rfl⟩
    · exact ⟨.lanePresenceChange .b false, rfl, fun _ => rfl⟩
  · exact channel i f h
  · rcases h with rfl | rfl | rfl | rfl | rfl | rfl | rfl | rfl | rfl | rfl | rfl | rfl
    · exact ⟨.purgeIntervalExpiry, rfl, fun _ => rfl⟩
    · exact ⟨.purgeDurationExpiry, rfl, fun _ => rfl⟩
    · exact ⟨.stopWindowExpiry, rfl, fun _ => rfl⟩
    · exact ⟨.standbyExpiry, rfl, fun _ => rfl⟩
    · exact ⟨.saleTimeoutExpiry .a, rfl, fun _ => rfl⟩
    · exact ⟨.saleTimeoutExpiry .b, rfl, fun _ => rfl⟩
    · exact ⟨.callTimeoutExpiry, rfl, fun _ => rfl⟩
    · exact ⟨.admissionGapExpiry, rfl, fun _ => rfl⟩
    · exact ⟨.beaconPeriodExpiry, rfl, fun _ => rfl⟩
    · exact ⟨.faultBeaconPeriod, rfl, fun _ => rfl⟩
    · exact ⟨.joinTimeout, rfl, fun _ => rfl⟩
    · exact ⟨.syncTimeout, rfl, fun _ => rfl⟩

/-- Everything the events before a command can do: a relation that is reflexive and transitive, and that every command nothing
comes before keeps, holds from a state to the one they leave. -/
theorem deliverDue_rel {r : State → State → Prop} (refl : ∀ s, r s s) (trans : ∀ {s t u}, r s t → r t u → r s u)
    (step : ∀ (c : Instr) (s t : State), comesFirst c = true → exec c s = .next t → r s t) (s : State) : r s s.deliverDue := by
  have all : ∀ (l : List (State → Result)), (∀ f ∈ l, f ∈ timedEvents) → ∀ s, r s (l.foldl State.deliver s) := by
    intro l
    induction l with
    | nil => exact fun _ s => refl s
    | cons f l ih =>
      intro h s
      refine trans ?_ (ih (fun g hg => h g (List.mem_cons_of_mem _ hg)) _)
      obtain ⟨c, hc, e⟩ := timedEvents_are_commands f (h f List.mem_cons_self)
      unfold State.deliver
      split
      · next t ht => exact step c s t hc (by rw [← e]; exact ht)
      · exact refl s
      · exact refl s
  unfold State.deliverDue
  exact all _ (fun _ h => h) s

/-- A property that every command nothing comes before keeps is kept by the events before a command. -/
theorem deliverDue_keeps {p : State → Prop}
    (step : ∀ (c : Instr) (s t : State), comesFirst c = true → p s → exec c s = .next t → p t) {s : State} (h : p s) :
    p s.deliverDue :=
  deliverDue_rel (r := fun s t => p s → p t) (fun _ => id) (fun f g a => g (f a)) (fun c s t hc e a => step c s t hc a e) s h

end Sys2Proof.Machine
end

