-- ==== Sys2Proof/Laws/Outcome.lean ====
section
/-! SUPPORT. No command stops the part: every meaning answers a next state. -/

namespace Sys2Proof.Machine

open Sys2Proof

/-- An outcome that is a next state. -/
def Answers (r : Result) : Prop := ∃ t, r = .next t

theorem answers_next (t : State) : Answers (.next t) := ⟨t, rfl⟩

theorem answers_ite {c : Prop} [Decidable c] {a b : Result} (ha : Answers a) (hb : Answers b) : Answers (if c then a else b) := by
  split_ifs
  · exact ha
  · exact hb

theorem afterDue_answers {f : State → Result} (h : ∀ s, Answers (f s)) (s : State) : Answers (s.afterDue f) := h _

theorem perform_answers (o : Occasion) (f : State → State) (s : State) : Answers (State.perform o f s) := answers_next _

theorem expire_answers (c : Pace) (o : Occasion) (f : State → State) (s : State) : Answers (State.expire c o f s) :=
  answers_ite (answers_next _) (answers_next _)

theorem edge_answers (pin : InputPin) (level : Bool) (o : Occasion) (f : State → State) (s : State) :
    Answers (State.edge pin level o f s) := answers_ite (answers_next _) (answers_next _)

theorem atChannel_answers (s : State) (i : Nat) (counter : Channel → Pace) (f : Channel → State → State) :
    Answers (State.atChannel s i counter f) := by
  unfold State.atChannel
  split
  · exact answers_ite (answers_next _) (answers_next _)
  · exact answers_next _

theorem takeFrame_answers (origin : Origin) (o : Occasion) (f : State → State) (s : State) :
    Answers (State.takeFrame origin o f s) := by
  unfold State.takeFrame
  split_ifs <;> exact answers_next _

theorem takeWhen_answers (origin : Origin) (w : Bool) (o : Occasion) (f : State → State) (s : State) :
    Answers (State.takeWhen origin w o f s) := answers_ite (takeFrame_answers _ _ _ _) (takeFrame_answers _ _ _ _)

theorem takeCommand_answers (origin : Origin) (g : Byte) (o : Occasion) (f : State → State) (s : State) :
    Answers (State.takeCommand origin g o f s) := takeWhen_answers _ _ _ _ _

theorem takeSales_answers (origin : Origin) (lane : Byte) (f : Lane → State → State) (s : State) :
    Answers (State.takeSales origin lane f s) := by
  unfold State.takeSales
  split
  · exact takeWhen_answers _ _ _ _ _
  · exact takeFrame_answers _ _ _ _

theorem sendAttemptStart_answers (s : State) : Answers (execSendAttemptStart s) := by
  refine afterDue_answers (fun s => ?_) s
  split
  · exact answers_ite (answers_next _) (answers_next _)
  · exact answers_next _

/-- Every command answers a next state, in every state of the part. -/
theorem exec_answers (c : Instr) (s : State) : Answers (exec c s) := by
  cases c with
  | powerOnReset =>
    dsimp only [exec, execPowerOnReset]
    exact answers_next _
  | lossOfSupply =>
    dsimp only [exec, execLossOfSupply]
    exact answers_next _
  | loadingEnd =>
    dsimp only [exec, execLoadingEnd]
    exact afterDue_answers (fun _ => answers_ite (answers_next _) (answers_next _)) _
  | encPulse =>
    dsimp only [exec, execEncPulse]
    exact afterDue_answers (fun _ => answers_ite (answers_next _) (answers_next _)) _
  | tick =>
    dsimp only [exec, execTick]
    exact afterDue_answers (fun _ => answers_ite (answers_next _) (answers_next _)) _
  | speedWindowEnd =>
    dsimp only [exec, execSpeedWindowEnd]
    exact answers_ite (answers_next _) (answers_next _)
  | pinLevelChange =>
    dsimp only [exec, execPinLevelChange]
    exact afterDue_answers (fun _ => answers_ite (answers_next _) (answers_next _)) _
  | eyeBlockEdge =>
    dsimp only [exec, execEyeBlockEdge]
    exact edge_answers _ _ _ _ _
  | eyeClearEdge =>
    dsimp only [exec, execEyeClearEdge]
    exact edge_answers _ _ _ _ _
  | estopFallingEdge =>
    dsimp only [exec, execEstopFallingEdge]
    exact edge_answers _ _ _ _ _
  | estopRisingEdge =>
    dsimp only [exec, execEstopRisingEdge]
    exact edge_answers _ _ _ _ _
  | pauseInputAsserted =>
    dsimp only [exec, execPauseInputAsserted]
    exact edge_answers _ _ _ _ _
  | pauseInputDeasserted =>
    dsimp only [exec, execPauseInputDeasserted]
    exact edge_answers _ _ _ _ _
  | resumeKeyPress =>
    dsimp only [exec, execResumeKeyPress]
    exact edge_answers _ _ _ _ _
  | chemLowAsserted =>
    dsimp only [exec, execChemLowAsserted]
    exact edge_answers _ _ _ _ _
  | chemLowDeasserted =>
    dsimp only [exec, execChemLowDeasserted]
    exact edge_answers _ _ _ _ _
  | freezeAsserted =>
    dsimp only [exec, execFreezeAsserted]
    exact edge_answers _ _ _ _ _
  | freezeDeasserted =>
    dsimp only [exec, execFreezeDeasserted]
    exact edge_answers _ _ _ _ _
  | lanePresenceChange =>
    dsimp only [exec, execLanePresenceChange]
    exact edge_answers _ _ _ _ _
  | overTempChange =>
    dsimp only [exec, execOverTempChange]
    exact afterDue_answers (fun _ => answers_ite (answers_next _) (answers_next _)) _
  | thermalSustainExpiry =>
    dsimp only [exec, execThermalSustainExpiry]
    exact atChannel_answers _ _ _ _
  | currentSample =>
    dsimp only [exec, execCurrentSample]
    exact atChannel_answers _ _ _ _
  | holdOffExpiry =>
    dsimp only [exec, execHoldOffExpiry]
    exact atChannel_answers _ _ _ _
  | hotTimerExpiry =>
    dsimp only [exec, execHotTimerExpiry]
    exact atChannel_answers _ _ _ _
  | idleTimerExpiry =>
    dsimp only [exec, execIdleTimerExpiry]
    exact atChannel_answers _ _ _ _
  | brushDrivePeriod =>
    dsimp only [exec, execBrushDrivePeriod]
    split
    · exact answers_ite (perform_answers _ _ _) (answers_next _)
    · exact answers_next _
  | runOnExpiry =>
    dsimp only [exec, execRunOnExpiry]
    exact atChannel_answers _ _ _ _
  | purgeIntervalExpiry =>
    dsimp only [exec, execPurgeIntervalExpiry]
    exact expire_answers _ _ _ _
  | purgeDurationExpiry =>
    dsimp only [exec, execPurgeDurationExpiry]
    exact expire_answers _ _ _ _
  | stopWindowExpiry =>
    dsimp only [exec, execStopWindowExpiry]
    exact expire_answers _ _ _ _
  | standbyExpiry =>
    dsimp only [exec, execStandbyExpiry]
    exact expire_answers _ _ _ _
  | saleTimeoutExpiry =>
    dsimp only [exec, execSaleTimeoutExpiry]
    exact expire_answers _ _ _ _
  | callTimeoutExpiry =>
    dsimp only [exec, execCallTimeoutExpiry]
    exact expire_answers _ _ _ _
  | admissionGapExpiry =>
    dsimp only [exec, execAdmissionGapExpiry]
    exact expire_answers _ _ _ _
  | beaconPeriodExpiry =>
    dsimp only [exec, execBeaconPeriodExpiry]
    exact expire_answers _ _ _ _
  | faultBeaconPeriod =>
    dsimp only [exec, execFaultBeaconPeriod]
    exact answers_ite (answers_next _) (answers_next _)
  | joinTimeout =>
    dsimp only [exec, execJoinTimeout]
    exact expire_answers _ _ _ _
  | syncTimeout =>
    dsimp only [exec, execSyncTimeout]
    exact expire_answers _ _ _ _
  | syncAnswerStep =>
    dsimp only [exec, execSyncAnswerStep]
    exact answers_ite (answers_next _) (answers_next _)
  | halt =>
    dsimp only [exec, execHalt]
    exact afterDue_answers (fun _ => takeFrame_answers _ _ _ _) _
  | release =>
    dsimp only [exec, execRelease]
    exact afterDue_answers (fun _ => takeFrame_answers _ _ _ _) _
  | resume =>
    dsimp only [exec, execResume]
    exact afterDue_answers (fun _ => takeCommand_answers _ _ _ _ _) _
  | clearTrain =>
    dsimp only [exec, execClearTrain]
    exact afterDue_answers (fun _ => takeCommand_answers _ _ _ _ _) _
  | restart =>
    dsimp only [exec, execRestart]
    exact afterDue_answers (fun _ => answers_ite (answers_next _) (takeCommand_answers _ _ _ _ _)) _
  | pause =>
    dsimp only [exec, execPause]
    exact afterDue_answers (fun _ => takeCommand_answers _ _ _ _ _) _
  | unpause =>
    dsimp only [exec, execUnpause]
    exact afterDue_answers (fun _ => takeCommand_answers _ _ _ _ _) _
  | hold =>
    dsimp only [exec, execHold]
    exact afterDue_answers (fun _ => takeCommand_answers _ _ _ _ _) _
  | unhold =>
    dsimp only [exec, execUnhold]
    exact afterDue_answers (fun _ => takeCommand_answers _ _ _ _ _) _
  | purge =>
    dsimp only [exec, execPurge]
    exact afterDue_answers (fun _ => takeCommand_answers _ _ _ _ _) _
  | admitCar =>
    dsimp only [exec, execAdmit]
    exact afterDue_answers (fun _ => takeWhen_answers _ _ _ _ _) _
  | length =>
    dsimp only [exec, execLength]
    exact afterDue_answers (fun _ => takeWhen_answers _ _ _ _ _) _
  | depart =>
    dsimp only [exec, execDepart]
    exact afterDue_answers (fun _ => takeWhen_answers _ _ _ _ _) _
  | flow =>
    dsimp only [exec, execFlow]
    exact afterDue_answers (fun _ => takeWhen_answers _ _ _ _ _) _
  | report =>
    dsimp only [exec, execReport]
    exact afterDue_answers (fun _ => takeWhen_answers _ _ _ _ _) _
  | syncReq =>
    dsimp only [exec, execSyncReq]
    exact afterDue_answers (fun _ => takeFrame_answers _ _ _ _) _
  | syncCar =>
    dsimp only [exec, execSyncCar]
    exact afterDue_answers (fun _ => takeFrame_answers _ _ _ _) _
  | syncEnd =>
    dsimp only [exec, execSyncEnd]
    exact afterDue_answers (fun _ => takeFrame_answers _ _ _ _) _
  | quote =>
    dsimp only [exec, execQuote]
    exact afterDue_answers (fun _ => takeFrame_answers _ _ _ _) _
  | paid =>
    dsimp only [exec, execPaid]
    exact afterDue_answers (fun _ => takeFrame_answers _ _ _ _) _
  | void =>
    dsimp only [exec, execVoid]
    exact afterDue_answers (fun _ => takeFrame_answers _ _ _ _) _
  | select =>
    dsimp only [exec, execSelect]
    exact afterDue_answers (fun _ => takeSales_answers _ _ _ _) _
  | tender =>
    dsimp only [exec, execTender]
    exact afterDue_answers (fun _ => takeSales_answers _ _ _ _) _
  | cancel =>
    dsimp only [exec, execCancel]
    exact afterDue_answers (fun _ => takeSales_answers _ _ _ _) _
  | beacon =>
    dsimp only [exec, execBeacon]
    exact afterDue_answers (fun _ => takeWhen_answers _ _ _ _ _) _
  | ownOriginFrame =>
    dsimp only [exec, execOwnOriginFrame]
    exact afterDue_answers (fun _ => perform_answers _ _ _) _
  | sendAttemptStart =>
    dsimp only [exec, execSendAttemptStart]
    exact sendAttemptStart_answers s
  | attemptLost =>
    dsimp only [exec, execAttemptLost]
    exact afterDue_answers (fun _ => answers_next _) _
  | attemptFailed =>
    dsimp only [exec, execAttemptFailed]
    exact afterDue_answers (fun _ => answers_ite (answers_next _) (answers_next _)) _
  | attemptSucceeded =>
    dsimp only [exec, execAttemptSucceeded]
    exact afterDue_answers (fun _ => answers_ite (answers_next _) (answers_next _)) _
  | dominantLineStretch =>
    dsimp only [exec, execDominantLineStretch]
    exact afterDue_answers (fun _ => answers_ite (answers_next _) (answers_next _)) _

end Sys2Proof.Machine
end

