-- ==== Sys2Proof/Laws/PerInstr.lean ====
section
/-! SUPPORT. One lemma for each command: where a command is a frame on the line, taking that frame (R167, R169) brings that
command back, with every field of its payload. -/

namespace Sys2Proof.Laws.LineRoundTrip

open Sys2Proof Sys2Proof.Machine

/-- The frame a command stands for, taken from its origin, is that command again. -/
def Statement (i : Instr) : Prop := ∀ (o : Origin) (f : Frame), frameOf i = some (o, f) → f.asCommand o = i

/-- A command that is no frame stands for none. -/
theorem of_none {i : Instr} (h : frameOf i = none) : Statement i := fun o f e => by rw [h] at e; cases e

/-- A command that is a frame, with the frame it is. -/
theorem of_some {i : Instr} {o : Origin} {f : Frame} (h : frameOf i = some (o, f)) (k : f.asCommand o = i) :
    Statement i := fun o' f' e => by
  rw [h] at e
  cases e
  exact k

theorem powerOnReset : Statement .powerOnReset := of_none rfl

theorem lossOfSupply : Statement .lossOfSupply := of_none rfl

theorem loadingEnd : ∀ image, Statement (.loadingEnd image) := fun _ => of_none rfl

theorem encPulse : Statement .encPulse := of_none rfl

theorem tick : Statement .tick := of_none rfl

theorem speedWindowEnd : Statement .speedWindowEnd := of_none rfl

theorem pinLevelChange : ∀ pin active, Statement (.pinLevelChange pin active) := fun _ _ => of_none rfl

theorem eyeBlockEdge : Statement .eyeBlockEdge := of_none rfl

theorem eyeClearEdge : Statement .eyeClearEdge := of_none rfl

theorem estopFallingEdge : Statement .estopFallingEdge := of_none rfl

theorem estopRisingEdge : Statement .estopRisingEdge := of_none rfl

theorem pauseInputAsserted : Statement .pauseInputAsserted := of_none rfl

theorem pauseInputDeasserted : Statement .pauseInputDeasserted := of_none rfl

theorem resumeKeyPress : Statement .resumeKeyPress := of_none rfl

theorem chemLowAsserted : Statement .chemLowAsserted := of_none rfl

theorem chemLowDeasserted : Statement .chemLowDeasserted := of_none rfl

theorem freezeAsserted : Statement .freezeAsserted := of_none rfl

theorem freezeDeasserted : Statement .freezeDeasserted := of_none rfl

theorem lanePresenceChange : ∀ lane active, Statement (.lanePresenceChange lane active) := fun _ _ => of_none rfl

theorem overTempChange : ∀ ch asserted, Statement (.overTempChange ch asserted) := fun _ _ => of_none rfl

theorem thermalSustainExpiry : ∀ ch, Statement (.thermalSustainExpiry ch) := fun _ => of_none rfl

theorem currentSample : ∀ ch reading, Statement (.currentSample ch reading) := fun _ _ => of_none rfl

theorem holdOffExpiry : ∀ ch, Statement (.holdOffExpiry ch) := fun _ => of_none rfl

theorem hotTimerExpiry : ∀ ch, Statement (.hotTimerExpiry ch) := fun _ => of_none rfl

theorem idleTimerExpiry : ∀ ch, Statement (.idleTimerExpiry ch) := fun _ => of_none rfl

theorem brushDrivePeriod : ∀ ch, Statement (.brushDrivePeriod ch) := fun _ => of_none rfl

theorem runOnExpiry : ∀ ch, Statement (.runOnExpiry ch) := fun _ => of_none rfl

theorem purgeIntervalExpiry : Statement .purgeIntervalExpiry := of_none rfl

theorem purgeDurationExpiry : Statement .purgeDurationExpiry := of_none rfl

theorem stopWindowExpiry : Statement .stopWindowExpiry := of_none rfl

theorem standbyExpiry : Statement .standbyExpiry := of_none rfl

theorem saleTimeoutExpiry : ∀ lane, Statement (.saleTimeoutExpiry lane) := fun _ => of_none rfl

theorem callTimeoutExpiry : Statement .callTimeoutExpiry := of_none rfl

theorem admissionGapExpiry : Statement .admissionGapExpiry := of_none rfl

theorem beaconPeriodExpiry : Statement .beaconPeriodExpiry := of_none rfl

theorem faultBeaconPeriod : Statement .faultBeaconPeriod := of_none rfl

theorem joinTimeout : Statement .joinTimeout := of_none rfl

theorem syncTimeout : Statement .syncTimeout := of_none rfl

theorem syncAnswerStep : Statement .syncAnswerStep := of_none rfl

theorem halt : ∀ origin cause grade current, Statement (.halt origin cause grade current) := fun _ _ _ _ => of_some rfl rfl

theorem release : ∀ origin cause, Statement (.release origin cause) := fun _ _ => of_some rfl rfl

theorem resume : ∀ origin target, Statement (.resume origin target) := fun _ _ => of_some rfl rfl

theorem clearTrain : ∀ origin target, Statement (.clearTrain origin target) := fun _ _ => of_some rfl rfl

theorem restart : ∀ origin target, Statement (.restart origin target) := fun _ _ => of_some rfl rfl

theorem pause : ∀ origin target, Statement (.pause origin target) := fun _ _ => of_some rfl rfl

theorem unpause : ∀ origin target, Statement (.unpause origin target) := fun _ _ => of_some rfl rfl

theorem hold : ∀ origin target, Statement (.hold origin target) := fun _ _ => of_some rfl rfl

theorem unhold : ∀ origin target, Statement (.unhold origin target) := fun _ _ => of_some rfl rfl

theorem purge : ∀ origin target, Statement (.purge origin target) := fun _ _ => of_some rfl rfl

theorem admitCar : ∀ origin ticket delta services intensity lane, Statement (.admitCar origin ticket delta services intensity lane) := fun _ _ _ _ _ _ => of_some rfl rfl

theorem length : ∀ origin ticket len, Statement (.length origin ticket len) := fun _ _ _ => of_some rfl rfl

theorem depart : ∀ origin ticket lost, Statement (.depart origin ticket lost) := fun _ _ _ => of_some rfl rfl

theorem flow : ∀ origin claim newest, Statement (.flow origin claim newest) := fun _ _ _ => of_some rfl rfl

theorem report : ∀ origin ticket given missed, Statement (.report origin ticket given missed) := fun _ _ _ _ => of_some rfl rfl

theorem syncReq : ∀ origin keeper, Statement (.syncReq origin keeper) := fun _ _ => of_some rfl rfl

theorem syncCar : ∀ origin joiner ticket front len services intensity, Statement (.syncCar origin joiner ticket front len services intensity) := fun _ _ _ _ _ _ _ => of_some rfl rfl

theorem syncEnd : ∀ origin joiner count, Statement (.syncEnd origin joiner count) := fun _ _ _ => of_some rfl rfl

theorem quote : ∀ origin lane sale result subtotal applied due, Statement (.quote origin lane sale result subtotal applied due) := fun _ _ _ _ _ _ _ => of_some rfl rfl

theorem paid : ∀ origin lane sale ticket change, Statement (.paid origin lane sale ticket change) := fun _ _ _ _ _ => of_some rfl rfl

theorem void : ∀ origin lane sale reason refund, Statement (.void origin lane sale reason refund) := fun _ _ _ _ _ => of_some rfl rfl

theorem select : ∀ origin lane plan addOns tier credit, Statement (.select origin lane plan addOns tier credit) := fun _ _ _ _ _ _ => of_some rfl rfl

theorem tender : ∀ origin lane sale amount, Statement (.tender origin lane sale amount) := fun _ _ _ _ => of_some rfl rfl

theorem cancel : ∀ origin lane sale, Statement (.cancel origin lane sale) := fun _ _ _ => of_some rfl rfl

theorem beacon : ∀ origin roleState causes trainCount p claim newest digest inTunnel, Statement (.beacon origin roleState causes trainCount p claim newest digest inTunnel) := fun _ _ _ _ _ _ _ _ _ => of_some rfl rfl

theorem ownOriginFrame : Statement .ownOriginFrame := of_none rfl

theorem sendAttemptStart : Statement .sendAttemptStart := of_none rfl

theorem attemptLost : Statement .attemptLost := of_none rfl

theorem attemptFailed : Statement .attemptFailed := of_none rfl

theorem attemptSucceeded : Statement .attemptSucceeded := of_none rfl

theorem dominantLineStretch : Statement .dominantLineStretch := of_none rfl

end Sys2Proof.Laws.LineRoundTrip
end

