-- ==== Sys2Proof/Laws/Safety.lean ====
section
/-! SUPPORT. The model's own tests decide what Safety.lean says of a station: idleness, the empty tunnel, a car that has gone, a
car served, and the sets of its REPORT. -/

namespace Sys2Proof.Machine

open Sys2Proof

/-- What holds of every channel holds of each one with its index. -/
theorem channels_iff (l : List Channel) (P : Nat → Channel → Prop) :
    (∀ i ch, l[i]? = some ch → P i ch) ↔ ∀ x ∈ l.zipIdx, P x.2 x.1 :=
  ⟨fun h x hx => h x.2 x.1 (List.mem_zipIdx_iff_getElem?.mp hx),
    fun h i ch hi => h (ch, i) (List.mem_zipIdx_iff_getElem?.mpr hi)⟩

theorem atRest_iff (x : ChannelState) : x.atRest = true ↔ x = .parked ∨ x = .closed ∨ x = .off := by
  cases x <;> simp [ChannelState.atRest]

/-- HC's test of idleness is what R107 lists. -/
theorem idle_iff (s : State) : s.idle = true ↔ StationIdle s := by
  have lanes : (∀ l : Lane, (s.su.lane l).queue = []) ↔ s.su.laneA.queue = [] ∧ s.su.laneB.queue = [] :=
    ⟨fun h => ⟨h .a, h .b⟩, fun h l => by cases l; exacts [h.1, h.2]⟩
  have runs : s.roleRuns .entry = false ↔ ∀ r, s.peerOfRole .entry = some r → r.reported ≠ some .run := by
    unfold State.roleRuns
    cases s.peerOfRole .entry <;> simp
  unfold State.idle StationIdle
  rw [lanes, ← runs]
  by_cases hr : s.role = .entry <;> simp [hr, atRest_iff, List.isEmpty_iff, and_assoc]

/-- TS's empty-tunnel test is what R199 lists. -/
theorem emptyTunnel_iff (s : State) : s.emptyTunnel = true ↔ TunnelEmpty s := by
  unfold State.emptyTunnel TunnelEmpty
  simp only [Bool.and_eq_true, List.isEmpty_iff, List.all_eq_true, List.mem_filter, Bool.or_eq_true, beq_iff_eq, and_imp]

/-- A car of the train before has left. -/
theorem carLeft_iff (s t : State) : t.carLeft s = true ↔ CarGone s t := by
  unfold State.carLeft CarGone
  simp

/-! ### REPORTs -/

/-- SS's test of R50: the car is served and unreported. -/
theorem reportDue_iff (c : Car) : c.reportDue = true ↔ c.served ∧ c.reported = false := by
  unfold Car.reportDue Car.served
  simp only [Bool.and_eq_true, Bool.not_eq_true', List.all_eq_true, List.any_eq_true, Bool.or_eq_true, beq_iff_eq]
  exact ⟨fun ⟨⟨r, f⟩, g⟩ => ⟨⟨f, g⟩, r⟩, fun ⟨⟨f, g⟩, r⟩ => ⟨⟨r, f⟩, g⟩⟩

theorem codeBit_getLsbD (a code : Nat) (h : code < 16) : (codeBit a).getLsbD code = decide (a = code) := by
  rw [codeBit, BitVec.getLsbD_ofNat, Nat.testBit_two_pow]
  simp [h]

/-- A code stands in the set exactly where a channel of that code passes the test. -/
theorem codesWhere_getLsbD (test : Progress → Bool) (chs : List Channel) (c : Car) (code : Nat) (h : code < 16) :
    (codesWhere test chs c).getLsbD code = true ↔ ∃ x ∈ chs.zipIdx, x.1.cfg.code = code ∧ test (c.progressAt x.2) = true := by
  have fold : ∀ (l : List (Channel × Nat)) (z : ServiceSet),
      (l.foldl (fun x y => if test (c.progressAt y.2) then x ||| codeBit y.1.cfg.code else x) z).getLsbD code = true ↔
        z.getLsbD code = true ∨ ∃ x ∈ l, x.1.cfg.code = code ∧ test (c.progressAt x.2) = true := by
    intro l
    induction l with
    | nil => simp
    | cons y l ih =>
      intro z
      rw [List.foldl_cons, ih]
      by_cases hy : test (c.progressAt y.2) = true <;> simp [hy, codeBit_getLsbD _ _ h, or_assoc]
  rw [codesWhere, fold]
  simp

/-- The sets of a REPORT are those that R50 lists. -/
theorem reportSets_of (s : State) (c : Car) : ReportSets s c (givenSet s.ss c) (missedSet s.ss c) := by
  intro code h
  have member : (∃ ch ∈ s.ss, ch.cfg.code = code) ↔ ∃ x ∈ s.ss.zipIdx, x.1.cfg.code = code :=
    ⟨fun ⟨ch, hm, hc⟩ => by
      obtain ⟨i, hi⟩ := List.getElem?_of_mem hm
      exact ⟨(ch, i), List.mem_zipIdx_iff_getElem?.mpr hi, hc⟩,
     fun ⟨x, hx, hc⟩ => ⟨x.1, List.mem_of_getElem? (List.mem_zipIdx_iff_getElem?.mp hx), hc⟩⟩
  refine ⟨by simp [missedSet, codesWhere_getLsbD _ _ _ _ h], ?_⟩
  rw [member, givenSet, BitVec.getLsbD_and, BitVec.getLsbD_not, Bool.and_eq_true, codesWhere_getLsbD _ _ _ _ h]
  simp only [h, decide_true, Bool.true_and, Bool.not_eq_true', ← Bool.not_eq_true, codesWhere_getLsbD _ _ _ _ h]
  constructor
  · rintro ⟨⟨x, hx, hc, -⟩, hn⟩
    exact ⟨⟨x, hx, hc⟩, fun y hy hyc => by_contra fun hne => hn ⟨y, hy, hyc, by simpa using hne⟩⟩
  · rintro ⟨⟨x, hx, hc⟩, ha⟩
    exact ⟨⟨x, hx, hc, by simpa using ha x hx hc⟩, fun ⟨y, hy, hyc, hyn⟩ => by simp [ha y hy hyc] at hyn⟩

/-! ### The pulse -/

@[simp] theorem State.pulsed_pc (s : State) : s.pulsed.pc = s.pc.pulse := rfl
@[simp] theorem State.pulsed_train (s : State) : s.pulsed.ts.train = keepOrder (s.pc.p + 1) none s.ts.train := rfl
@[simp] theorem State.pulsed_phase (s : State) : s.pulsed.ts.phase = s.ts.phase := rfl
@[simp] theorem State.pulsed_held (s : State) : s.pulsed.ts.held = s.ts.held := rfl
@[simp] theorem State.pulsed_cl (s : State) : s.pulsed.cl = s.cl := rfl
@[simp] theorem State.pulsed_inputs (s : State) : s.pulsed.inputs = s.inputs := rfl
@[simp] theorem State.pulsed_hc (s : State) : s.pulsed.hc = s.hc := rfl
@[simp] theorem State.pulsed_ss (s : State) : s.pulsed.ss = s.ss := rfl
@[simp] theorem State.pulsed_lp (s : State) : s.pulsed.lp = s.lp := rfl

/-! ### Idleness -/

/-- All that HC's reader of idleness does: it loads the standby counter where idleness begins and cancels it where it ends. -/
theorem idleStage_eq (s before : State) : s.idleStage before = s.setHc { s.hc with standby :=
    if s.idle = before.idle then s.hc.standby else if s.idle = true then (Pace.load s.cl.constants.standbyTime) else Pace.idle } := by
  unfold State.idleStage
  cases s.idle <;> cases before.idle <;> simp <;> rfl

end Sys2Proof.Machine
end

