-- ==== Sys2Proof/Tests/Slice0.lean ====
section
/-! SUPPORT. Tests on small stations, each about one step. Expected values come from the worked computations and sequences of
spec/ (sections 1.7, 2.5, 3.9, 4.6, 5.10, 6.4, 7.5, 8.5, 9.6, 10.8), or by hand from the rule that the comment names. After
them, for every statement with hypotheses, a witness: a state and operands that meet them together. -/

namespace Sys2Proof.Tests

open Sys2Proof Sys2Proof.Machine

set_option Elab.async false

/-! ### Small stations -/

/-- The constants of the sequences: B = 20, T = 10, G = 60, Ga = 300, Lmax = 600, v_nom = 24, N = 4, K = 2. -/
def consts (n : Nat) (r : Role) (eye : Nat) : Constants where
  station := n
  role := r
  eye := eye
  budget := 20
  tolerance := 10
  gap := 60
  admissionGap := 300
  lmax := 600
  vNom := 24
  admissionLimit := 4
  fairness := 2
  beaconPeriod := 100
  silentLimit := 4
  skewLimit := 24
  stopWindow := 1500
  standbyTime := 300000
  purgeInterval := 600000
  purgeDuration := 30000
  saleTimeout := 120000
  callTimeout := 60000
  digest := 0x1234

/-- A peer heard in RUN, at offset 0. -/
def peer (n : Nat) (r : Role) : Peer := ⟨n, r, true, 0, some .run, 0, 0, 0, some 0, some 0, some 0⟩

/-- A station in RUN at P = 5,000 and v = 20: number 1 the ENTRY, 2 the DRIVE, 3 the EXIT, 4 the ARCH station. -/
def station (n : Nat) (r : Role) (eye : Nat) : State :=
  let s := State.reset
  { s with
    pc := ⟨5000, 20, 5, 60, 3⟩
    cl := { s.cl with constants := consts n r eye }
    ts := { s.ts with held := false }
    hc := { s.hc with own := 0, runState := .run }
    pt := {
      peers := [peer 1 .entry, peer 2 .drive, peer 3 .exit, peer 4 .arch].filter (fun r => r.station ≠ n)
      others := [⟨17, .kioskA⟩, ⟨18, .kioskB⟩, ⟨19, .console⟩]
      beacon := Pace.load 100
      join := Pace.idle }
    ac := { s.ac with limit := 4 } }

/-- A car with a front at P = 5,000. -/
def car (t : Ticket) (front : Nat) (len : Option Nat) : Car := ⟨t, markAt 5000 front, len, 0x28, 2, .unseenYet, [], false, false⟩

def brushCfg : ChannelConfig := ⟨.brush, 3, 2000, 100, false, 50, 40, 12, 30, 300, 500, 4, 60000, 30000, 1⟩
def sprayCfg : ChannelConfig := ⟨.spray, 5, 2200, 80, false, 40, 40, 12, 30, 300, 500, 4, 60000, 30000, 6⟩

def drive : State := station 2 .drive 0
def exit : State := station 3 .exit 3000

/-- The ARCH station of 3.9: a brush and a spray, no car. -/
def arch : State :=
  (station 4 .arch 2400).setSs
    [{ createChannel brushCfg false with state := .parked }, { createChannel sprayCfg false with state := .closed }]

/-- The ARCH station with car 900 one pulse short of its windows' next events. -/
def archWith (front : Nat) (states : List ChannelState) (progress : List ProgressEntry) : State :=
  (arch.setSs (List.zipWith (fun ch x => { ch with state := x }) arch.ss states)).setTrain
    [{ car 900 front (some 420) with progress := progress, eye := .passed }]

/-- The catalogue of 6.4, with the service values of 7.5. -/
def catalogue : Catalogue where
  plans := [some ⟨900, 0xC3, 2⟩, some ⟨1400, 0xF7, 3⟩, some ⟨2200, 0xFF, 4⟩, some ⟨0, 0x40, 1⟩]
  addOns := [some ⟨300, 8, 6⟩, some ⟨500, 0x20, 0xE⟩, some ⟨250, 4, 0xE⟩, some ⟨400, 0x100, 0xC⟩, some ⟨500, 0xC, 6⟩]
  values := [0, 0, 0, 200, 0, 350]
  tiers := [0, 10, 15, 50]
  rounding := 25

/-- A sale of 850 with 600 drawn from entry 41,207. -/
def sale : Sale := ⟨3118, 41207, 600, 1775, 1700, 1450, 850, 0xFF, 3, 0, 0, 0, 0, .priced⟩

/-- A sale in a lane queue. -/
def queuedSale (t : Ticket) (x : SaleState) : Sale := ⟨3117, 0, 0, 0, 900, 900, 900, 0xC3, 2, 900, 0, t, 0, x⟩

/-- The ENTRY of 7.5: 41,259 the last ticket, 3,117 the last sale, 41,255 PAID at lane B, 41,207 REDEEMABLE at 600. -/
def entry : State :=
  let s := station 1 .entry 0
  { s with su := { s.su with
    catalogue := catalogue, lastSale := 3117, lastTicket := 41259,
    laneB := { s.su.laneB with queue := [queuedSale 41255 .paid] },
    credits := [⟨41207, 1775, 0x24, 600, false⟩] } }

/-- The ENTRY with sale 3,118 PRICED at lane B. -/
def pricing (tendered : Nat) : State :=
  entry.setSu { entry.su with
    lastSale := 3118, credits := [],
    laneB := { entry.su.laneB with openSale := some { sale with tendered := tendered }, timeout := Pace.load 120000 } }

/-- The ENTRY with a call standing at lane B. -/
def calling : State :=
  ((entry.setSu { entry.su with laneB := { entry.su.laneB with queue := [queuedSale 41255 .called] } }).setAc
    { entry.ac with gate := .calling .b, callTimeout := Pace.load 60000 }).setInput .presB ⟨true, true, Pace.idle⟩

/-- A station with a cause in its own set. -/
def holding (s : State) (c : Cause) : State := s.setHc { s.hc with own := addCause 0 c }

/-- A station with an edge of an input due: the pin has held the level for the debounce time (R207). -/
def edging (q : InputPin) (x : Bool) (s : State) : State := s.setInput q ⟨x, !x, Pace.out⟩

/-- A station in another run state. -/
def inState (s : State) (r : RunState) : State := s.setRunState r

/-- The state after a command. -/
def after (c : Instr) (s : State) : State :=
  match exec c s with
  | .next t => t
  | .fault _ => s
  | .refused _ => s

/-! ### WellFormed -/

/-- Origins 0 and 31 are not valid on the line (R165). -/
theorem test_origin_zero_is_ill_formed : (Instr.release 0 1).wellFormed = false := by decide
theorem test_origin_31_is_ill_formed : (Instr.beacon 31 0 0 0 0 0 0 0 0).wellFormed = false := by decide
theorem test_origins_1_to_30_are_well_formed :
    (List.range 30).all (fun n => (Instr.cancel (BitVec.ofNat 5 (n + 1)) 1 1).wellFormed) = true := by decide

/-- The table gives no row bits, so no word spells a command. -/
theorem test_no_word_spells_a_command : decodeTableWord 8 0 = none ∧ State.reset.withFetchWord 8 0 = State.reset := by decide

/-! ### Positions, tickets and prices (1.7, 6.4) -/

/-- 1.7: the mark 16,776,900 across a wrap. -/
theorem test_front_across_a_wrap :
    frontAt 350 16776900 = 666 ∧ frontAt 2084 16776900 = 2400 ∧
      { car 4410 0 (some 430) with mark := 16776900 }.rear 350 600 = 236 ∧
      { car 4410 0 none with mark := 16776900 }.rear 350 600 = 66 := by decide

/-- 1.7: a correction written as a mark. -/
theorem test_correction_as_a_mark : markAt 1005230 1200 = 1004030 ∧ frontAt 1005683 1004030 = 1653 := by decide

/-- 1.7: comparing tickets, and the newest of a set. -/
theorem test_ticket_order :
    ticketOlder 1200 1215 = true ∧ ticketOlder 65530 4 = true ∧ ticketOlder 65535 1 = true ∧ ticketOlder 4 65530 = false ∧
      ticketOlder 100 32868 = false ∧ ticketOlder 32868 100 = false ∧ ticketOlder 5 5 = false ∧
      newestOf [65533, 65535, 2, 7] = 7 ∧ oldestOf [65533, 0, 65535, 2, 7] = 65533 := by decide

/-- 6.4: an ordinary sale with a credit, a floored discount, a credit still in the tunnel, and a choice not offered. -/
theorem test_worked_prices :
    catalogue.price 2 3 2 41207 [⟨41207, 1775, 0, 600, false⟩] = ⟨.quoted, 1700, 1450, 600, 850, 0xFF, 3⟩ ∧
      catalogue.price 1 4 2 0 [] = ⟨.quoted, 1150, 1000, 0, 1000, 0xC7, 2⟩ ∧
      catalogue.price 2 16 0 41190 [⟨41190, 900, 0, 0, true⟩] = ⟨.noCredit, 1900, 1900, 0, 1900, 0xFF, 3⟩ ∧
      (catalogue.price 3 1 0 0 []).result = .notOffered := by decide

/-- 3.9: level at several speeds, and under override with a thermal cap of 4. -/
theorem test_worked_levels :
    [0, 2, 18, 24, 40].map (fun v => brushLevel v 24 3 false 4) = [0, 1, 5, 6, 8] ∧
      [0, 2, 18, 24, 40].map (fun v => brushLevel v 24 3 true 4) = [0, 1, 4, 4, 4] ∧ brushLevel 18 24 4 false 4 = 6 := by decide

/-- 10.8: offset and skew across a wrap. -/
theorem test_worked_skew : skewOf 50120 49684 436 = 0 ∧ skewOf 90120 89644 436 = 40 ∧ skewOf 90120 89724 436 = -40 := by decide

/-! ### The line (9.6, R164, R165) -/

/-- 9.6: priority values, and the sender left. -/
theorem test_three_stations_arbitrate :
    priorityValue 2 (.halt 3 1 3) = 34 ∧ priorityValue 6 (.halt 6 1 6) = 38 ∧ priorityValue 1 entry.liveBeacon = 577 ∧
      arbitrationWinners [34, 38, 577] = [34] := by decide

/-- R164, by hand: six dominant bits are sent with a recessive bit after the fifth. -/
theorem test_stuff_bit : stuff [false, false, false, false, false, false] = [false, false, false, false, false, true, false] := by decide

/-- R170, R189: a COMMAND of a code outside the eight is read, and does nothing but hear its sender. -/
theorem test_other_command_codes :
    commandOfBits (sentBits 4 (.command 9 0)) = some (heardOnly 4) ∧
      (after (heardOnly 4) (drive.mapPeers (fun r => { r with age := 9 }))).pt.peers.map (fun r => r.age) = [9, 9, 0] := by
  decide +kernel

/-- R166, R177, by hand: station 6 sends its HALT of priority value 38 while station 2's of 34 stands on the line. They differ
at the eighth bit of the field, which is the tenth bit sent, for a stuff bit follows the five dominant bits at the start. A
dominant bit read recessive is a failure. -/
theorem test_attempt_ends :
    attemptEnd 6 (.halt 6 1 6) (sentBits 2 (.halt 3 1 3)) = some .lost ∧
      attemptEnd 2 (.halt 3 1 3) (sentBits 2 (.halt 3 1 3)) = some .succeeded ∧
      attemptEnd 2 (.halt 3 1 3) [true] = some .failed ∧
      firstDifference (attemptBits 6 (.halt 6 1 6)) (sentBits 2 (.halt 3 1 3)) = some 9 := by decide +kernel

/-- A RELEASE of station 2 as it stands on the line is read as that command. -/
theorem test_release_is_read : commandOfBits (sentBits 2 (.release 3)) = some (.release 2 3) := by decide +kernel

/-! ### Supply and start -/

/-- R200: reset leaves STARTUP alone and LOADING; a pin that stands active is a change. -/
theorem test_power_on_reset :
    (after .powerOnReset (drive.setInput .estop ⟨true, true, Pace.idle⟩)).inputs.estop = ⟨true, false, Pace.load 20⟩ ∧
      (after .powerOnReset drive).hc = HaltController.reset := by decide +kernel

/-- R208: with the supply gone every output is off. -/
theorem test_loss_of_supply : (after .lossOfSupply drive).inReset = true ∧ (after .lossOfSupply drive).runOutput = false := by
  decide +kernel

/-- R165: the check of the bytes "123456789", by hand. -/
theorem test_check : checkOfBytes [0x31, 0x32, 0x33, 0x34, 0x35, 0x36, 0x37, 0x38, 0x39] = 0x29B1 := by decide +kernel

/-- 11.6: a blank memory reads 255 everywhere; the station enters CONFIG_FAULT and sends nothing. -/
theorem test_blank_image :
    (after (.loadingEnd (Vector.replicate 220 255)) State.reset).hc.runState = .configFault ∧
      (after (.loadingEnd (Vector.replicate 220 255)) State.reset).lp = LinePort.reset := by decide +kernel

/-- The 55 bytes of a DRIVE's image with the constants of the small stations, its check worked by hand (11.7, R165). -/
def driveBytes : List Byte :=
  [1, 0, 55, 2, 2, 0, 0, 0, 1, 2, 3, 4, 0, 0, 0, 0, 0, 0, 0, 0, 0, 0, 0, 0, 17, 18, 19, 0] ++
    [20, 10, 0, 60, 1, 44, 2, 88, 24, 4, 2, 0, 100, 4, 24, 5, 220, 1, 44, 2, 88, 30, 0, 120, 60, 201, 213]

/-- The configuration memory that begins with bytes. -/
def memory (l : List Byte) : ImageBytes := Vector.ofFn (fun i => l.getD i.val 0)

set_option maxRecDepth 100000 in
/-- R203, R204: a sound image gives its constants, the peers of its expected list, and JOINING; the digest is the check of the
constants section. -/
theorem test_sound_image :
    let t := after (.loadingEnd (memory driveBytes)) State.reset
    t.hc.runState = .joining ∧ t.cl.constants = { consts 2 .drive 0 with digest := 0x7FA9 } ∧
      t.pt.peers.map (fun r => (r.station, r.role)) = [(1, .entry), (3, .exit), (4, .arch)] ∧
      t.lp.waiting.map (fun q => q.kind) = [1, 18] := by decide +kernel

/-- R201: the longest image is read whole; a format code that is not 1 stops the reading at four bytes. -/
theorem test_bytes_clocked_in :
    (clockedIn (memory driveBytes).toList).length = 55 ∧ (clockedIn (memory [9, 0, 55, 2]).toList).length = 4 ∧
      State.reset.spiSends = [3, 0, 0] ∧ drive.spiSends = [] := by decide +kernel

/-- R206: a RESTART under an H cause. -/
theorem test_restart : (after (.restart 19 0) (holding drive .estop)).hc = HaltController.reset := by decide +kernel

/-! ### Pulses, ticks, windows -/

/-- 1.7: the first pulse after standing still makes v 1 at once (R5). -/
theorem test_start_pulse : (after .encPulse (drive.setPc { drive.pc with v := 0 })).pc = ⟨5001, 1, 6, 60, 0⟩ := by decide +kernel

/-- 1.7: saturation moves the mark (R13). -/
theorem test_saturation_moves_the_mark :
    (after .encPulse ((drive.setPc { drive.pc with p := 2016383 }).setTrain [{ car 812 0 none with mark := 2000000 }])).ts.train.map
      (fun c => c.mark) = [2000001] := by decide +kernel

/-- R6, R189: ages saturate at 65,535. -/
theorem test_tick_ages :
    (after .tick (drive.setPc { drive.pc with lastPulseAge := 65535 })).pc.lastPulseAge = 65535 ∧
      (after .tick drive).pt.peers.map (fun r => r.age) = [1, 1, 1] := by decide +kernel

/-- R190: silent at the tick that takes the age past 4 beacon periods of 100 ticks. -/
theorem test_silent_at_tick :
    (after .tick (drive.mapPeers (fun r => { r with age := 400 }))).owns .silent = true ∧
      (after .tick (drive.mapPeers (fun r => { r with age := 399 }))).owns .silent = false := by decide +kernel

/-- R4: the window count becomes v at the 250th tick, and not before. -/
theorem test_window_end :
    (after .speedWindowEnd (drive.setPc { drive.pc with windowTicks := 250 })).pc = ⟨5000, 5, 0, 0, 3⟩ ∧
      (after .speedWindowEnd (drive.setPc { drive.pc with windowTicks := 249 })).pc = ⟨5000, 20, 5, 249, 3⟩ := by decide +kernel

/-! ### Field inputs -/

theorem test_pin_level_change :
    (after (.pinLevelChange .chemLow true) drive).inputs.chemLow = ⟨true, false, Pace.load 2000⟩ := by decide +kernel

/-- R207: no edge before the debounce time has passed, nor with the pin back at its level. -/
theorem test_edge_waits :
    after .estopFallingEdge (drive.setInput .estop ⟨true, false, ⟨true, 1, false⟩⟩) = drive.setInput .estop ⟨true, false, ⟨true, 1, false⟩⟩ ∧
      (after .tick (drive.setInput .estop ⟨true, false, ⟨true, 1, false⟩⟩)).inputs.estop = ⟨true, false, Pace.out⟩ ∧
      (after .tick (drive.setInput .estop ⟨false, false, ⟨true, 1, false⟩⟩)).inputs.estop = ⟨false, false, Pace.idle⟩ := by decide +kernel
theorem test_estop : (after .estopFallingEdge (edging .estop true drive)).owns .estop = true ∧
    (after .estopRisingEdge (edging .estop false (holding drive .estop))).owns .estop = true := by decide +kernel
theorem test_pause_input : (after .pauseInputAsserted (edging .pause true drive)).runOutput = false ∧
    (after .pauseInputDeasserted (edging .pause false (holding drive .opPause))).runOutput = true := by decide +kernel
theorem test_chem_low : (after .chemLowAsserted (edging .chemLow true drive)).grade = some .hold ∧
    (after .chemLowDeasserted (edging .chemLow false (holding drive .chemLow))).grade = none := by decide +kernel

/-- R103, 5.10: the resume key releases CLOSING and not CHEM_LOW. -/
theorem test_resume_key :
    (after .resumeKeyPress
      (edging .resumeKey true (drive.setHc { drive.hc with own := addCause (addCause 0 .closing) .chemLow }))).hc.own =
      addCause 0 .chemLow := by decide +kernel

/-- 5.10: presence wakes the ENTRY from STANDBY. -/
theorem test_presence_wakes :
    (after (.lanePresenceChange .b true) (edging .presB true (inState entry .standby))).hc.runState = .run := by decide +kernel

/-- 8.5: with the presence comes the call. -/
theorem test_presence_begins_call : (after (.lanePresenceChange .b true) (edging .presB true entry)).ac.gate = .calling .b ∧
    (after (.lanePresenceChange .b true) (edging .presB true entry)).lampOutput .b = true := by decide +kernel

/-- 2.5: two cars through an arch eye, first event. -/
theorem test_block_edge_matches :
    let s := (station 4 .arch 3000).setTs { arch.ts with
      train := [{ car 200 0 (some 450) with mark := 50000 }, { car 201 0 (some 480) with mark := 50520 }], lastClear := some 52480 }
    let t := after .eyeBlockEdge (edging .eye true (s.setPc { s.pc with p := 52994 }))
    t.ts.phase = .matched 200 ∧ t.ts.train.map (fun c => c.mark) = [49994, 50520] ∧ t.owns .closing = false := by decide +kernel

/-- 2.5: the third event there, a gap of 77 below G = 80 is CLOSING; here 59 below G = 60. -/
theorem test_short_gap_is_closing :
    let s := (station 4 .arch 3000).setTs { arch.ts with train := [{ car 201 0 (some 480) with mark := 50520 }], lastClear := some 53466 }
    let t := after .eyeBlockEdge (edging .eye true (s.setPc { s.pc with p := 53525 }))
    t.owns .closing = true ∧ t.ts.train.map (fun c => c.mark) = [50525] := by decide +kernel

/-- 8.5: an admission writes the entry mark and queues the ADMIT with age 0. -/
theorem test_admission :
    (after .eyeBlockEdge (edging .eye true calling)).ac.gate = .entering ⟨41255, .b, 5000⟩ ∧
      (after .eyeBlockEdge (edging .eye true calling)).lp.waiting = [⟨.admitCar 41255 0 0xC3 2 2, some 5000⟩] := by decide +kernel

/-- R157: a δ that has reached 255 stays there, also when P comes round to the entry mark. -/
theorem test_delta_stays :
    let s := fun d : Byte => entry.setLp ⟨none, [⟨.admitCar 9 d 0 1 1, some 5001⟩], 0⟩
    (after .encPulse (s 255)).lp.waiting = [⟨.admitCar 9 255 0 1 1, some 5001⟩] ∧
      (after .encPulse (s 254)).lp.waiting = [⟨.admitCar 9 0 0 1 1, some 5001⟩] := by decide +kernel

/-- 8.5: a measured length of 455, and one of 640, above Lmax. -/
theorem test_clear_edge_measures :
    let s := fun m : Pulse => edging .eye false (entry.setAc { entry.ac with gate := .entering ⟨41270, .a, m⟩ })
    (after .eyeClearEdge (s 4545)).lp.waiting = [⟨.length 41270 455, none⟩] ∧
      (after .eyeClearEdge (s 4545)).ac.gap = Pace.load 300 ∧
      (after .eyeClearEdge (s 4360)).lp.waiting = [⟨.halt 13 2 13, none⟩, ⟨.length 41270 640, none⟩] := by decide +kernel

/-! ### Channels -/

/-- 3.9: the brush is ENGAGED at the pulse that brings the front to 1,900, and the spray at 2,120. -/
theorem test_window_opens :
    (after .encPulse (archWith 1899 [.ready, .closed] [⟨.pending, 0⟩, ⟨.pending, 0⟩])).ss.map (fun ch => ch.state) =
        [.engaged, .closed] ∧
      (after .encPulse (archWith 2119 [.engaged, .closed] [⟨.active, 219⟩, ⟨.pending, 0⟩])).ts.train.map (fun c => c.progress) =
        [[⟨.active, 220⟩, ⟨.active, 0⟩]] := by decide +kernel

/-- 3.9: the last window closes with 260 of 540 pulses: MISSED, and the REPORT goes. -/
theorem test_window_closes :
    (after .encPulse ((archWith 2660 [.ready, .opened] [⟨.given, 570⟩, ⟨.active, 259⟩]).setFb ⟨6, 900⟩)).lp.waiting.map (fun q => q.frame) =
      [.flow 0 0, .report 900 8 0x20] := by decide +kernel

theorem test_over_temp : ((after (.overTempChange 0 true) arch).ss.map (fun ch => ch.sustain)) = [Pace.load 2000, Pace.idle] := by
  decide +kernel

/-- The brush of the ARCH station changed. -/
def withBrush (f : Channel → Channel) : State := arch.setSs (arch.ss.modify 0 f)

/-- R58, R59: override begins at the sustain's expiry; the hot timer raises HOT. -/
theorem test_thermal :
    ((after (.thermalSustainExpiry 0) (withBrush (fun ch => { ch with recorded := true, sustain := Pace.out }))).ss.map
        (fun ch => ch.override)) = [true, false] ∧
      (after (.hotTimerExpiry 0) (withBrush (fun ch => { ch with override := true, hot := Pace.out }))).owns .hot = true := by
  decide +kernel

/-- 3.9: at L = 5 the threshold is 130; 131 is over, 130 is not. -/
theorem test_current_sample :
    let s := withBrush (fun ch =>
      { ch with state := .engaged, level := 5, holdOff := Pace.load 500, sample := Pace.out, overRun := 20 })
    (after (.currentSample 0 131) s).ss.map (fun ch => ch.overRun) = [30, 0] ∧
      (after (.currentSample 0 130) s).ss.map (fun ch => ch.overRun) = [0, 0] := by decide +kernel

/-- 3.9: the hold-off expires on an over run of 340. -/
theorem test_hold_off_expiry :
    (after (.holdOffExpiry 0) (withBrush (fun ch => { ch with state := .engaged, holdOff := Pace.out, overRun := 340 }))).owns .stall =
      true := by decide +kernel
theorem test_idle_timer :
    (after (.idleTimerExpiry 0) (withBrush (fun ch => { ch with state := .ready, idle := Pace.out }))).ss.map (fun ch => ch.state) =
      [.parked, .closed] := by decide +kernel
theorem test_drive_period :
    (after (.brushDrivePeriod 0) (withBrush (fun ch => { ch with state := .engaged, level := 5, drivePhase := 8 }))).driveOutput 0 =
        true ∧
      (after (.brushDrivePeriod 0) (withBrush (fun ch => { ch with state := .ready, drivePhase := 8 }))).ss.map
        (fun ch => (ch.onTime, ch.drivePhase)) = [(1, 0), (0, 0)] ∧
      (after (.brushDrivePeriod 0) (withBrush (fun ch => { ch with state := .ready, drivePhase := 7 }))).ss.map
        (fun ch => (ch.onTime, ch.drivePhase)) = [(0, 7), (0, 0)] := by decide +kernel

/-- R208, the table of 3.5: the two lines of an arm, ENGAGED, SUSPENDED under a pause and under a stop, and READY. -/
theorem test_arm_lines :
    let lines := fun (x : ChannelState) (s : State) =>
      let t := s.setSs (arch.ss.map (fun ch => { ch with state := x }))
      (t.armOutLine 0, t.armHoldLine 0, t.armOutLine 1, t.armOutLine 2)
    lines .engaged arch = (true, false, false, false) ∧ lines .suspended (holding arch .opPause) = (false, true, false, false) ∧
      lines .suspended (holding arch .estop) = (false, false, false, false) ∧ lines .ready arch = (false, false, false, false) := by
  decide +kernel

def dryerCfg : ChannelConfig := { sprayCfg with kind := .dryer, code := 3, timeTrail := true, trail := 5000 }

/-- The ARCH station with a dryer running on for car 900, engaged for n pulses of its window of 500. -/
def runningOn (n : Nat) : State :=
  (arch.setSs [{ createChannel dryerCfg false with state := .runOn, runOnCar := some 900, runOn := Pace.out }]).setTrain
    [{ car 900 2700 (some 420) with progress := [⟨.active, n⟩], eye := .passed }]

/-- R44, R48: half of 500 is 250. -/
theorem test_run_on_judges :
    (after (.runOnExpiry 0) (runningOn 250)).lp.waiting.map (fun q => q.frame) = [.report 900 8 0] ∧
      (after (.runOnExpiry 0) (runningOn 249)).lp.waiting.map (fun q => q.frame) = [.report 900 0 8] := by decide +kernel

/-- R24, R44, R23: car 901's placement opens and closes its pulse part at the dryer, which ends car 900's run-on; car 900, past
the retire point of 2,210, leaves at once. -/
theorem test_placement_ends_run_on :
    let s := (runningOn 250).setTrain
      [{ car 900 3000 (some 420) with progress := [⟨.active, 250⟩], eye := .passed }, { car 901 2700 (some 420) with
        progress := [⟨.pending, 0⟩], eye := .passed }]
    ticketsOf (after .encPulse (s.setCl { s.cl with constants := { s.cl.constants with eye := 0 } })).ts.train = [901] := by
  decide +kernel

/-- R109: at a dryer with trail 0 right behind the datum an ADMIT's car is placed and retired in one action, and wakes the
station from STANDBY. -/
theorem test_placement_wakes :
    let s := (inState (station 4 .arch 0) .standby).setSs
      [{ createChannel { dryerCfg with position := 50, lead := 0, trail := 0 } false with state := .off }]
    let t := after (.admitCar 1 7 255 8 2 1)
      (s.setCl { s.cl with constants := { s.cl.constants with lmax := 100, tolerance := 2 } })
    t.ts.train = [] ∧ t.hc.runState = .run := by decide +kernel

/-! ### Purge, stop window, standby -/

/-- The ARCH station with FREEZE asserted and a purge debt. -/
def frozen (debt : Nat) : State :=
  (arch.setInput .freeze ⟨true, true, Pace.idle⟩).setPs { arch.ps with debt := debt, interval := Pace.out }

/-- The ARCH station with a forced purge that has run its time. -/
def purging : State :=
  (((frozen 4).setPs { (frozen 4).ps with purge := .forced, duration := Pace.out }).setSs
    (arch.ss.modify 1 (fun ch => { ch with state := .purging }))).setFb ⟨6, 0⟩

/-- 4.6: the expiry that brings the debt to 4 starts the forced purge. -/
theorem test_forced_purge :
    (after .purgeIntervalExpiry (frozen 3)).ps.purge = .forced ∧
      (after .purgeIntervalExpiry (frozen 3)).fb = ⟨6, 0⟩ := by decide +kernel

/-- 4.6: its completion pays one unit; with no window open the next purge is a normal one. -/
theorem test_purge_pays : (after .purgeDurationExpiry purging).ps.debt = 3 := by decide +kernel

/-- 4.6: the freeze ends. -/
theorem test_freeze_off :
    (after .freezeDeasserted (edging .freeze false purging)).ps = ⟨0, false, Pace.idle, Pace.idle, .none⟩ ∧
      (after .freezeDeasserted (edging .freeze false purging)).lp.waiting = [⟨.flow 0 0, none⟩] := by decide +kernel
theorem test_freeze_on : (after .freezeAsserted (edging .freeze true arch)).ps.interval = Pace.load 600000 := by decide +kernel
theorem test_console_purge : (after (.purge 19 0) arch).ps.purge = .normal := by decide +kernel

/-- 5.10: an age of 860 at the window's expiry is at rest; R98: a pulse 249 ticks ago is RUNAWAY. -/
theorem test_stop_window :
    let s := fun n => (drive.setPc { drive.pc with lastPulseAge := n }).setHc { drive.hc with stop := Pace.out }
    (after .stopWindowExpiry (s 860)).owns .runaway = false ∧ (after .stopWindowExpiry (s 249)).safeOutput = false := by decide +kernel
theorem test_standby_expiry :
    (after .standbyExpiry (drive.setHc { drive.hc with standby := Pace.out })).runOutput = false := by decide +kernel

/-! ### Sales and gate (7.5, 8.5) -/

theorem test_select_makes_sale :
    (after (.select 18 2 2 3 2 41207) entry).openSale .b = some sale ∧
      (after (.select 18 2 2 3 2 41207) entry).su.credits = [] ∧
      (after (.select 18 2 2 3 2 41207) entry).lp.waiting = [⟨.quote 2 3118 0 1700 600 850, none⟩] := by decide +kernel
theorem test_select_of_an_open_credit :
    (after (.select 18 2 2 16 0 41207) (entry.setSu { entry.su with credits := [⟨41207, 900, 0, 0, true⟩] })).lp.waiting =
      [⟨.quote 2 0 2 1900 0 1900, none⟩] := by decide +kernel
theorem test_tender_pays :
    (after (.tender 18 2 3118 500) (pricing 500)).lp.waiting = [⟨.paid 2 3118 41260 150, none⟩] ∧
      (after (.tender 18 2 3118 500) (pricing 500)).su.laneB.queue.map (fun x => x.ticket) = [41255, 41260] := by decide +kernel
theorem test_tender_late : (after (.tender 18 2 3117 1000) (pricing 0)).lp.waiting = [⟨.void 2 3117 5 1000, none⟩] := by
  decide +kernel
theorem test_cancel_after_payment :
    let paid := { sale with tendered := 1000, change := 150, ticket := 41260, state := .paid }
    let s := entry.setSu { entry.su with credits := [], laneB := { entry.su.laneB with queue := [queuedSale 41255 .paid, paid] } }
    (after (.cancel 18 2 3118) s).su.credits = [⟨41207, 1775, 0, 600, false⟩] ∧
      (after (.cancel 18 2 3118) s).lp.waiting = [⟨.void 2 3118 1 850, none⟩] := by decide +kernel
/-- The ENTRY with the timeout of sale 3,118 run out. -/
def timedOut (tendered : Nat) : State :=
  (pricing tendered).setLane .b { (pricing tendered).su.laneB with timeout := Pace.out }

theorem test_sale_timeout :
    (after (.saleTimeoutExpiry .b) (timedOut 500)).lp.waiting = [⟨.void 2 3118 2 500, none⟩] ∧
      (after (.saleTimeoutExpiry .b) (timedOut 500)).su.laneB.timeout = Pace.idle := by decide +kernel

/-- R9, its first two rows: a TENDER after the TICK that brings the timeout to 0 finds the sale voided, the refund on its way,
and comes LATE; a TENDER before that TICK loads the timeout again, and the TICK counts the new value. -/
theorem test_tick_and_tender :
    let s := (pricing 500).setLane .b { (pricing 500).su.laneB with timeout := ⟨true, 1, false⟩ }
    (after (.tender 18 2 3118 100) (after .tick s)).lp.waiting = [⟨.void 2 3118 2 500, none⟩, ⟨.void 2 3118 5 100, none⟩] ∧
      (after .tick (after (.tender 18 2 3118 100) s)).su.laneB.timeout = ⟨true, 119999, false⟩ ∧
      (after .tick (after (.tender 18 2 3118 100) s)).lp.waiting = [] := by decide +kernel

/-- 7.5: the third call timeout abandons the sale for a credit at its net. -/
theorem test_third_call_timeout :
    let s := (calling.setSu { calling.su with laneB := { calling.su.laneB with
      queue := [{ queuedSale 41255 .called with callTimeouts := 2 }] } }).setAc { calling.ac with callTimeout := Pace.out }
    (after .callTimeoutExpiry s).su.credits = [⟨41207, 1775, 0x24, 600, false⟩, ⟨41255, 900, 0, 900, false⟩] ∧
      (after .callTimeoutExpiry s).su.laneB.queue = [] := by decide +kernel
theorem test_gap_expiry :
    (after .admissionGapExpiry (entry.setAc { entry.ac with gate := .spacing, gap := Pace.out })).ac.gate = .shut := by
  decide +kernel

/-- 7.5: REPORT and DEPART settle the entry of 41,260. -/
theorem test_report_credits :
    let s := entry.setSu { entry.su with credits := [⟨41260, 1450, 0x20, 350, true⟩] }
    (after (.report 4 41260 0 0x28) s).su.credits = [⟨41260, 1450, 0x28, 550, true⟩] := by decide +kernel
theorem test_depart_settles :
    let s := entry.setSu { entry.su with credits := [⟨41260, 1450, 0x28, 550, true⟩] }
    (after (.depart 3 41260 0) s).su.credits = [⟨41260, 1450, 0x28, 550, false⟩] := by decide +kernel

/-! ### Frames of stations -/

/-- 5.10: a HALT of H stops the conveyor, and the RELEASE starts it. -/
theorem test_halt_and_release :
    (after (.halt 4 3 1 3) drive).runOutput = false ∧ (after (.halt 4 3 1 3) drive).hc.stop = Pace.load 1500 ∧
      (after (.release 4 3) (after (.halt 4 3 1 3) drive)).runOutput = true := by decide +kernel

/-- R168: a frame of an origin that is not configured changes nothing. -/
theorem test_unknown_origin : after (.halt 9 1 1 1) drive = drive := by decide +kernel

/-- R171: a frame under this station's own origin. -/
theorem test_own_origin : (after .ownOriginFrame drive).owns .mismatch = true ∧ (after (.release 2 3) drive).owns .mismatch = true := by
  decide +kernel

/-- 1.7: an ADMIT of age 9 is placed at 9. -/
theorem test_admit_age :
    (after (.admitCar 1 3021 9 0x28 2 1) drive).ts.train.map (fun c => (c.ticket, c.front 5000, c.length)) = [(3021, 9, none)] := by
  decide +kernel
theorem test_length :
    (after (.length 1 900 430) (drive.setTrain [car 900 666 none])).ts.train.map (fun c => c.length) = [some 430] ∧
      (after (.length 1 900 601) (drive.setTrain [car 900 666 none])).ts.train.map (fun c => c.length) = [none] := by decide +kernel

/-- 4.6: station 7 of the example sheds on the FLOW that takes the total above 20. -/
theorem test_flow_sheds :
    let s := (archWith 2300 [.engaged, .opened] [⟨.active, 400⟩, ⟨.active, 180⟩]).setFb ⟨6, 900⟩
    (after (.flow 2 15 899) s).ss.map (fun ch => ch.state) = [.engaged, .deferred] ∧
      (after (.flow 2 14 899) s).ss.map (fun ch => ch.state) = [.engaged, .opened] := by decide +kernel
theorem test_quote_paid_void :
    (after (.quote 1 1 1 0 0 0 0) drive).hc = drive.hc ∧ (after (.paid 1 1 1 1 0) drive).hc = drive.hc ∧
      (after (.void 1 1 1 1 0) drive).hc = drive.hc := by decide +kernel

/-- 10.8: the skew of 40 exceeds 24. -/
theorem test_beacon_skew :
    let s := (drive.setPc { drive.pc with p := 90120 }).mapPeers (fun r => { r with offset := some 436 })
    (after (.beacon 4 0xD8 0 0 89644 0 0 0x1234 0) s).owns .skew = true ∧
      (after (.beacon 4 0xD8 0 0 89684 0 0 0x1234 0) s).owns .skew = false := by decide +kernel

/-! ### Console commands -/

theorem test_pause_command : (after (.pause 19 2) drive).grade = some .pause ∧ (after (.pause 19 3) drive).grade = none := by
  decide +kernel
theorem test_unpause : (after (.unpause 19 0) (holding drive .opPause)).hc.own = 0 := by decide +kernel
theorem test_hold : (after (.hold 19 0) drive).lp.waiting = [⟨.halt 17 3 17, none⟩] := by decide +kernel
theorem test_unhold : (after (.unhold 19 0) (holding drive .opHold)).lp.waiting = [⟨.release 17, none⟩] := by decide +kernel

/-- 5.10: RESUME releases ESTOP with the input restored, and not SILENT while a record is silent. -/
theorem test_resume_in_part :
    let s := (drive.setHc { drive.hc with own := addCause (addCause 0 .estop) .silent }).mapPeers (fun r => { r with age := 401 })
    (after (.resume 19 0) s).hc.own = addCause 0 .silent := by decide +kernel

/-- R28: CLEAR_TRAIN empties the train of a halted, stationary station. -/
theorem test_clear_train :
    let s := ((holding drive .estop).setPc { drive.pc with v := 0 }).setTrain [car 900 666 none]
    (after (.clearTrain 19 0) s).ts.train = [] ∧ (after (.clearTrain 19 0) (s.setPc drive.pc)).ts.train = s.ts.train := by
  decide +kernel

/-! ### Beacons, join and sync -/

/-- The DRIVE with its beacon period run out. -/
def beaconing : State := drive.setPt { drive.pt with beacon := Pace.out }

theorem test_beacon_period : (after .beaconPeriodExpiry beaconing).lp.waiting.map (fun q => q.kind) = [18] := by decide +kernel

/-- A station in CONFIG_FAULT with fault origin 4. -/
def faulty : State :=
  let s := State.reset
  { s with cl := ⟨Constants.unloaded, some 4, .arch, Pace.out⟩, hc := { s.hc with own := addCause startupOnly .mismatch, runState := .configFault } }

theorem test_fault_beacon :
    (after .faultBeaconPeriod faulty).lp.waiting.map (fun q => q.kind) = [18] ∧
      (after .faultBeaconPeriod faulty).cl.faultBeacon = Pace.load 100 := by decide +kernel

/-- The DRIVE in JOINING, with no peer heard. -/
def joining : State :=
  let s := inState drive .joining
  (s.setPt { s.pt with join := Pace.out }).mapPeers (fun r => { r with heard := false })

/-- A joiner in SYNCING that asked its keeper. -/
def syncing (received : Nat) : State :=
  let s := inState (station 4 .arch 0) .syncing
  s.setTs { s.ts with sync := Pace.load 2000, keeper := 2, received := received, recent := [41301] }

/-- The same joiner when its sync has run out. -/
def syncTimedOut (received : Nat) : State := (syncing received).setTs { (syncing received).ts with sync := Pace.out }

/-- R193, R194: the DRIVE asks the EXIT, with SILENT raised. -/
theorem test_join_timeout :
    (after .joinTimeout joining).hc.runState = .syncing ∧ (after .joinTimeout joining).owns .silent = true ∧
      (after .joinTimeout joining).ts.keeper = 3 := by decide +kernel
theorem test_sync_timeout :
    (after .syncTimeout (syncTimedOut 0)).ts.syncFailed = true ∧ (after .syncTimeout (syncTimedOut 0)).hc.runState = .ready := by decide +kernel

/-- R199: the keeper's first beacon with a train count of 0 clears the flag. -/
theorem test_beacon_clears_flag :
    (after (.beacon 2 0x58 0 0 0 0 0 0x1234 0) (after .syncTimeout (syncTimedOut 0))).ts.syncFailed = false := by decide +kernel

/-- 10.8: a car recently departed is counted and not placed; the next is placed at its front. -/
theorem test_sync_cars :
    (after (.syncCar 2 4 41301 3991 0 0 2) (syncing 0)).ts.train = [] ∧
      (after (.syncCar 2 4 41302 3412 420 0 2) (syncing 1)).ts.train.map (fun c => (c.ticket, c.front 5000, c.synced)) =
        [(41302, 3412, true)] := by decide +kernel
theorem test_sync_end :
    (after (.syncEnd 2 4 3) (syncing 3)).ts.syncFailed = false ∧ (after (.syncEnd 2 4 3) (syncing 3)).hc.runState = .ready := by
  decide +kernel

/-- The DRIVE with two cars, asked by station 4 and with its answer's step due or not. -/
def answering (last : Ticket) (count : Nat) (due : Bool) : State :=
  let s := drive.setTrain [car 41301 3991 none, car 41302 3412 (some 420)]
  s.setTs { s.ts with answers := [⟨4, last, count⟩], answerDue := due }

/-- 10.8: the DRIVE answers a request in its action, and then by one step each. -/
theorem test_keeper_answers :
    (after (.syncReq 4 2) (drive.setTrain [car 41301 3991 none])).lp.waiting.map (fun q => q.frame) =
        [.syncCar 4 41301 3991 0 0x28 2] ∧
      (after .syncAnswerStep (answering 41302 2 true)).lp.waiting.map (fun q => q.frame) = [.syncEnd 4 2] := by
  decide +kernel

/-- R196: a tick brings one step and no more, and the next tick does not pass it by. -/
theorem test_one_answer_step_a_tick :
    let s := after .tick (answering 41301 1 false)
    s.lp.waiting = [] ∧ (after .syncAnswerStep s).lp.waiting.map (fun q => q.frame) = [.syncCar 4 41302 3412 420 0x28 2] ∧
      after .syncAnswerStep (after .syncAnswerStep s) = after .syncAnswerStep s ∧
      (after .tick s).lp.waiting.map (fun q => q.frame) = [.syncCar 4 41302 3412 420 0x28 2] := by decide +kernel

/-! ### The line port's attempts (9.6) -/

/-- The DRIVE with a HALT waiting, and one in hand. -/
def sending : State := drive.setLp ⟨none, [⟨.halt 9 1 9, none⟩, ⟨.flow 0 0, none⟩], 5⟩
def attempting (failures : Nat) : State := drive.setLp ⟨some ⟨.halt 9 1 9, none⟩, [⟨.flow 0 0, none⟩], failures⟩

theorem test_attempt_start : (after .sendAttemptStart sending).lp = (attempting 5).lp := by decide +kernel
theorem test_attempt_lost : (after .attemptLost (attempting 5)).lp = sending.lp := by decide +kernel
theorem test_attempt_failed :
    (after .attemptFailed (attempting 7)).owns .lineLost = true ∧ (after .attemptFailed (attempting 6)).owns .lineLost = false ∧
      (after .attemptFailed (attempting 7)).lp.waiting.map (fun q => q.frame) = [.halt 9 1 9, .halt 10 1 10, .flow 0 0] := by
  decide +kernel
theorem test_attempt_succeeded : (after .attemptSucceeded (attempting 5)).lp = ⟨none, [⟨.flow 0 0, none⟩], 0⟩ := by decide +kernel
theorem test_dominant_stretch : (after .dominantLineStretch sending).lp.failures = 6 := by decide +kernel

/-! ### Witnesses: states and operands that meet the hypotheses of the statements -/

/-- The fault station between two of its beacons. -/
def faultyBetween : State := faulty.setCl { faulty.cl with faultBeacon := Pace.load 100 }

theorem witness_StepTakesFrontCommand :
    (drive.setPending [.tick, .encPulse]).pending = .tick :: [.encPulse] ∧ State.reset.pending = [] := by decide +kernel

/-- The state that R200 describes has STARTUP alone, no car and nothing that lasts. -/
theorem witness_ResetValuesAndLaws : State.reset.owns .startup = true ∧ State.reset.halted = true ∧ State.reset.ss = [] := by decide

/-- The EXIT with three cars, the last at the datum. -/
def threeCars : State := exit.setTrain [car 41301 16383 none, car 41302 3412 (some 420), car 41303 0 none]

theorem witness_TrainLawKept : TrainLaw threeCars ∧ ∃ t, step threeCars = .next t := by
  refine ⟨?_, _, rfl⟩
  unfold TrainLaw
  decide +kernel

/-- A full transmit queue: 16 frames in order of kind. -/
def fullPort : LinePort :=
  ⟨some ⟨.halt 9 1 9, none⟩, (⟨.flow 0 0, none⟩ :: List.replicate 13 ⟨.report 301 0 0, none⟩) ++ [⟨drive.liveBeacon, none⟩], 5⟩

theorem witness_QueueLawKept : QueueLaw (drive.setLp fullPort).lp ∧ ∃ t, step (drive.setLp fullPort) = .next t := by
  refine ⟨?_, _, rfl⟩
  unfold QueueLaw
  decide +kernel

theorem witness_SalesLawKept : SalesLaw (pricing 500).su ∧ ∃ t, step (pricing 500) = .next t := by
  refine ⟨?_, _, rfl⟩
  unfold SalesLaw
  exact ⟨by decide +kernel, by decide +kernel, by decide +kernel, by decide +kernel, by decide +kernel, by decide +kernel,
    by decide +kernel, by unfold Sale.drawn; decide +kernel⟩

/-- The ARCH station serving car 900 at both channels. -/
def serving : State :=
  ((archWith 2300 [.engaged, .opened] [⟨.active, 400⟩, ⟨.active, 180⟩]).setFb ⟨6, 900⟩).setSs
    ((archWith 2300 [.engaged, .opened] []).ss.modify 0 (fun ch => { ch with level := 4 }))

theorem witness_ClaimLawKept : ClaimLaw serving ∧ ∃ t, step serving = .next t := by
  refine ⟨?_, _, rfl⟩
  unfold ClaimLaw
  decide +kernel

theorem witness_PurgeLawKept : PurgeLaw (frozen 4) ∧ PurgeLaw drive ∧ ∃ t, step (frozen 4) = .next t := by
  refine ⟨?_, ?_, _, rfl⟩ <;> unfold PurgeLaw <;> decide +kernel

theorem witness_LevelLawKept : LevelLaw serving ∧ ∃ t, step serving = .next t := by
  refine ⟨⟨by decide +kernel, fun i ch h => ?_⟩, _, rfl⟩
  match i with
  | 0 => cases h; unfold Channel.levelRight; decide +kernel
  | 1 => cases h; unfold Channel.levelRight; decide +kernel
  | n + 2 => cases h

/-- The ENTRY with three cars in the tunnel and a call standing, one below its limit. -/
def lastPlace : State := calling.setSu { calling.su with credits := [1, 2, 3].map (fun t => ⟨t, 900, 0, 0, true⟩) }

theorem witness_LimitLawKept : LimitLaw lastPlace ∧ lastPlace.active = true ∧ lastPlace.role = .entry ∧
    ∃ t, step lastPlace = .next t := by
  refine ⟨⟨fun h => absurd h (by decide +kernel), fun _ _ => ⟨by decide +kernel, by decide +kernel, fun l _ => ?_⟩⟩,
    by decide +kernel, by decide +kernel, _, rfl⟩
  exact (by decide +kernel : lastPlace.inTunnel < lastPlace.ac.limit)

theorem witness_CallLawKept : CallLaw calling ∧ ∃ t, step calling = .next t := by
  refine ⟨⟨fun l => ?_, by decide +kernel, fun l _ _ => by decide +kernel⟩, _, rfl⟩
  cases l
  · exact ⟨by decide +kernel, fun x h => absurd (show (none : Option Sale) = some x from h) (by simp), fun _ => by decide +kernel⟩
  · refine ⟨by decide +kernel, fun x h => ?_, fun h => absurd h (by decide +kernel)⟩
    cases h
    decide +kernel

/-- Whether a channel stands as its windows give. -/
def decideRight (s : State) (i : Nat) (ch : Channel) : Decidable (Channel.stateRight s i ch) := by
  unfold Channel.stateRight
  split <;> infer_instance

/-- Channels that stand right one by one make the law of the channel states. -/
theorem channelLaw_of_each {s : State} (ha : s.active = true ∧ s.role = .arch)
    (h : s.ss.zipIdx.all (fun x => @decide _ (decideRight s x.2 x.1)) = true) : ChannelLaw s := by
  refine ⟨fun hn => by simp_all, fun _ => (channels_iff _ _).mpr fun x hx => ?_⟩
  exact @of_decide_eq_true _ (decideRight s x.2 x.1) (List.all_eq_true.mp h x hx)

/-- The station that serves car 900 keeps the three laws. -/
theorem serving_laws : HaltLaw serving ∧ ChannelLaw serving ∧ ClaimLaw serving :=
  ⟨by simp only [HaltLaw, ← idle_iff, Channel.stopped]; decide +kernel,
    channelLaw_of_each (by decide) (by decide +kernel),
    witness_ClaimLawKept.1⟩

/-- The same station after a console's PAUSE. -/
def pausedServing : State := after (.pause 19 0) serving

theorem witness_HaltAndChannelLawsKept :
    (HaltLaw serving ∧ ChannelLaw serving ∧ ¬ PurgeDue serving ∧ serving.halted = false ∧ serving.ss ≠ []) ∧
      (HaltLaw pausedServing ∧ pausedServing.halted = true) ∧ ∃ t, step serving = .next t :=
  ⟨⟨serving_laws.1, serving_laws.2.1, by simp only [PurgeDue, channels_iff]; decide +kernel, by decide, by decide⟩,
    ⟨by simp only [HaltLaw, ← idle_iff, Channel.stopped]; decide +kernel, by decide +kernel⟩, _, rfl⟩

theorem witness_CausesLeaveOnlyBy_runaway : (holding drive .runaway).owns .runaway = true ∧ Instr.restart 19 0 ≠ .powerOnReset ∧
    Instr.restart 19 0 ≠ .lossOfSupply ∧ ∃ t, exec (.restart 19 0) (holding drive .runaway) = .next t :=
  ⟨by decide +kernel, by decide, by decide, exec_answers _ _⟩

/-- A command takes a cause out of a set that holds it. -/
def leaves (c : Instr) (s : State) (k : Cause) : Bool := (s.before c).owns k && !(after c s).owns k

theorem witness_CausesLeaveOnlyBy :
    leaves .lossOfSupply (holding drive .runaway) .runaway = true ∧ leaves .powerOnReset (holding drive .runaway) .runaway = true ∧
      leaves (.restart 19 0) (holding drive .mismatch) .mismatch = true ∧ leaves (.resume 19 0) (holding drive .skew) .skew = true ∧
      leaves .resumeKeyPress (edging .resumeKey true (holding drive .long)) .long = true ∧
      leaves .pauseInputDeasserted (edging .pause false (holding drive .opPause)) .opPause = true ∧
      leaves (.unpause 19 0) (holding drive .opPause) .opPause = true ∧ leaves (.unhold 19 0) (holding drive .opHold) .opHold = true ∧
      leaves .chemLowDeasserted (edging .chemLow false (holding drive .chemLow)) .chemLow = true ∧
      leaves (.thermalSustainExpiry 0)
        (holding (withBrush (fun ch => { ch with override := true, sustain := Pace.out })) .hot) .hot = true := by decide +kernel

/-- A command brings a cause into a set that lacks it. -/
def joins (c : Instr) (s : State) (k : Cause) : Bool := !(s.before c).owns k && (after c s).owns k

theorem witness_CausesJoinOnlyBy :
    joins .estopFallingEdge (edging .estop true drive) .estop = true ∧
      joins .stopWindowExpiry (drive.setHc { drive.hc with stop := Pace.out }) .runaway = true ∧
      joins (.admitCar 1 5 9 0 1 1) (drive.setTrain [car 4 0 none]) .closing = true ∧
      joins .eyeBlockEdge (edging .eye true exit) .unexpected = true ∧ joins .encPulse (exit.setTrain [car 5 3010 (some 400)]) .missing = true ∧
      joins (.holdOffExpiry 0) (withBrush (fun ch => { ch with state := .engaged, holdOff := Pace.out, overRun := 300 })) .stall =
        true ∧
      joins (.admitCar 1 99 9 0 1 1) (drive.setTrain ((List.range 24).map (fun i => car (BitVec.ofNat 16 (i + 1)) (9000 - i) none)))
        .overflow = true ∧
      joins .joinTimeout joining .silent = true ∧ joins (.beacon 4 0xD8 0 0 4975 0 0 0x1234 0) drive .skew = true ∧
      joins .attemptFailed (attempting 7) .lineLost = true ∧ joins .ownOriginFrame drive .mismatch = true ∧
      joins .powerOnReset drive .startup = true ∧
      joins .eyeClearEdge (edging .eye false (entry.setAc { entry.ac with gate := .entering ⟨9, .a, 4360⟩ })) .long = true ∧
      joins (.pause 19 0) drive .opPause = true ∧
      joins (.hotTimerExpiry 0) (withBrush (fun ch => { ch with hot := Pace.out })) .hot = true ∧
      joins .chemLowAsserted (edging .chemLow true drive) .chemLow = true ∧ joins (.hold 19 0) drive .opHold = true := by decide +kernel

/-- A command moves the run state. -/
def moves (c : Instr) (s : State) (x y : RunState) : Bool :=
  (s.before c).hc.runState == x && (after c s).hc.runState == y

/-- A station in READY under STARTUP. -/
def readied : State := inState (holding drive .startup) .ready

set_option maxRecDepth 100000 in
theorem witness_RunStateMoves :
    moves .lossOfSupply drive .run .loading = true ∧ moves (.loadingEnd (memory driveBytes)) State.reset .loading .joining = true ∧
      moves (.loadingEnd (memory [])) State.reset .loading .configFault = true ∧ moves .joinTimeout joining .joining .syncing = true ∧
      moves .syncTimeout (syncTimedOut 0) .syncing .ready = true ∧ moves .resumeKeyPress (edging .resumeKey true readied) .ready .run = true ∧
      moves .standbyExpiry (drive.setHc { drive.hc with standby := Pace.out }) .run .standby = true ∧
      moves (.admitCar 1 5 9 0 1 1) (inState drive .standby) .standby .run = true := by decide +kernel

/-- The EXIT with a car whose progress is final and whose REPORT is sent. -/
def reportedCar : State :=
  (archWith 2661 [.ready, .closed] []).setTrain
    [{ car 900 2661 (some 420) with progress := [⟨.given, 570⟩, ⟨.missed, 260⟩], reported := true }]

theorem witness_FinalProgressStays :
    (ProgressLaw serving ∧ (∃ c ∈ serving.ts.train, c.progress.length = 2) ∧ ∃ t, step serving = .next t) ∧ TrainLaw reportedCar ∧ (∃ t, exec .encPulse reportedCar = .next t) ∧
      ∃ x ∈ reportedCar.ts.train, ∃ y ∈ (after .encPulse reportedCar).ts.train,
        x.ticket = y.ticket ∧ (x.progressAt 0).final = true ∧ (x.progressAt 1).final = true ∧ x.reported = true := by
  refine ⟨⟨by unfold ProgressLaw; decide +kernel, by decide +kernel, _, rfl⟩, by unfold TrainLaw; decide +kernel,
    exec_answers _ _, by decide +kernel⟩

/-- R50: the REPORT at the pulse that closes the last window, its codes 3 given and 5 missed; and a law that holds before. -/
theorem witness_FinalProgressStays_report :
    let s := archWith 2660 [.ready, .opened] [⟨.given, 570⟩, ⟨.active, 259⟩]
    TrainLaw s ∧ ProgressLaw s ∧ ReportLaw s ∧ ReportLaw reportedCar ∧
      (s.ts.train.map (fun c => c.reported) = [false] ∧ (after .encPulse s).ts.train.map (fun c => c.reported) = [true] ∧
        (after .encPulse s).lp.size ≤ 12 ∧ (after .encPulse s).waitsFrame (.report 900 8 0x20)) ∧
      ∀ c ∈ (after .encPulse s).ts.train, ReportSets (after .encPulse s) c 8 0x20 := by
  unfold TrainLaw ProgressLaw ReportLaw Car.served State.waitsFrame ReportSets
  decide +kernel

/-- One pulse before the spray opens for car 900, with 14 of the budget of 20 claimed elsewhere. -/
def aboutToOpen : State :=
  (archWith 2119 [.engaged, .closed] [⟨.active, 219⟩, ⟨.pending, 0⟩]).mapPeers
    (fun r => if r.station = 2 then { r with claim := 14, newest := 7 } else r)

theorem witness_ClaimRisesWithinBudget :
    ClaimLaw aboutToOpen ∧ (∃ t, exec .encPulse aboutToOpen = .next t) ∧
      aboutToOpen.fb.claim < (after .encPulse aboutToOpen).fb.claim ∧ (after .encPulse aboutToOpen).ps.purge ≠ .forced ∧
      (after .encPulse aboutToOpen).totalClaim = 20 ∧
      (QueueLaw aboutToOpen.lp ∧ aboutToOpen.active = true ∧ (after .encPulse aboutToOpen).active = true ∧
        aboutToOpen.role = .arch ∧ (after .encPulse aboutToOpen).fb ≠ aboutToOpen.fb ∧ (after .encPulse aboutToOpen).lp.size ≤ 12 ∧
        (after .encPulse aboutToOpen).lp.waiting.map (fun q => q.frame) = [.flow 6 900]) :=
  ⟨by unfold ClaimLaw; decide +kernel, exec_answers _ _, by decide +kernel, by decide +kernel, by decide +kernel,
    by unfold QueueLaw; decide +kernel⟩

/-- The ENTRY calling lane B for the third time, its call timeout run out, with car 41,256 waiting at lane A or nobody. -/
def lastCall (waiting : Bool) : State :=
  let u := { calling.su with
    laneA := { calling.su.laneA with queue := [queuedSale 41256 .paid] }
    laneB := { calling.su.laneB with queue := [{ queuedSale 41255 .called with callTimeouts := 2 }] }
    }
  ((calling.setSu u).setAc { calling.ac with callTimeout := Pace.out }).setInput .presA ⟨waiting, waiting, Pace.idle⟩

/-- The ENTRY when its admission gap has run out, with car 41,255 waiting at lane B or nobody. -/
def gapOver (waiting : Bool) : State :=
  (entry.setAc { entry.ac with gate := .spacing, gap := Pace.out }).setInput .presB ⟨waiting, waiting, Pace.idle⟩

/-- A command moves the gate. -/
def gateMoves (c : Instr) (s : State) (g h : Gate) : Bool := (s.before c).ac.gate == g && (after c s).ac.gate == h

theorem witness_GateMovesAndCalls :
    (∃ t, exec (.lanePresenceChange .b true) (edging .presB true entry) = .next t) ∧
      gateMoves (.lanePresenceChange .b true) (edging .presB true entry) .shut (.calling .b) = true ∧
      gateMoves .callTimeoutExpiry (lastCall true) (.calling .b) (.calling .a) = true ∧
      gateMoves .callTimeoutExpiry (lastCall false) (.calling .b) .shut = true ∧
      gateMoves (.pause 19 0) calling (.calling .b) .shut = true ∧
      gateMoves .eyeBlockEdge (edging .eye true calling) (.calling .b) (.entering ⟨41255, .b, 5000⟩) = true ∧
      gateMoves .eyeClearEdge (edging .eye false (entry.setAc { entry.ac with gate := .entering ⟨9, .a, 4400⟩ }))
        (.entering ⟨9, .a, 4400⟩) .spacing = true ∧
      gateMoves .admissionGapExpiry (gapOver false) .spacing .shut = true ∧
      gateMoves .admissionGapExpiry (gapOver true) .spacing (.calling .b) = true :=
  ⟨exec_answers _ _, by decide +kernel⟩

/-- A beacon of the ENTRY that shows it in STANDBY, or in RUN. -/
def entryBeacon (rests : Bool) : Instr := .beacon 1 (if rests then 0x20 else 0x18) 0 0 5000 0 0 0x1234 0

/-- R52, R53: a PAUSE suspends a brush that was ENGAGED and a spray that was OPEN, the UNPAUSE has both take up their states
again; R107: the DRIVE is idle while the ENTRY rests. -/
theorem witness_HaltsAndStandby :
    (serving.active = true ∧ serving.halted = false ∧ pausedServing.active = true ∧ pausedServing.halted = true ∧
      pausedServing.hc.stop = Pace.load 1500 ∧ pausedServing.ss.map (fun ch => ch.state) = [.suspended, .suspended]) ∧
    (HaltLaw pausedServing ∧ ClaimLaw pausedServing ∧ (after (.unpause 19 0) pausedServing).halted = false ∧
      (after (.unpause 19 0) pausedServing).hc.stop = Pace.idle ∧
      (after (.unpause 19 0) pausedServing).ss.map (fun ch => ch.state) = [.engaged, .opened]) ∧
    (¬ StationIdle drive ∧ StationIdle (after (entryBeacon true) drive) ∧
      (after (entryBeacon true) drive).hc.standby = Pace.load 300000 ∧
      ¬ StationIdle (after (entryBeacon false) (after (entryBeacon true) drive))) ∧
    StationIdle (after .tick (after (entryBeacon true) drive)) := by
  simp only [HaltLaw, ClaimLaw, ← idle_iff, Channel.stopped]
  refine ⟨by decide +kernel, by decide +kernel, by decide +kernel, by decide +kernel⟩

/-- A brush OUT, one on HOLD, a dryer in RUN-ON, and a lit lamp, with the chain closed. -/
theorem witness_OutputsFollowState :
    calling.safeOutput = true ∧ calling.lampOutput .b = true ∧ drive.runOutput = true ∧ serving.safeOutput = true ∧
      (∃ ch, serving.ss[0]? = some ch ∧ ch.cfg.kind = .brush ∧ ch.state = .engaged) ∧
      (∃ ch, serving.ss[1]? = some ch ∧ ch.cfg.kind = .spray ∧ ch.state = .opened) ∧
      (∃ ch, (runningOn 250).ss[0]? = some ch ∧ ch.cfg.kind = .dryer ∧ ch.state = .runOn) ∧ serving.ss[2]? = none ∧
      ((holding arch .opPause).setSs (arch.ss.map (fun ch => { ch with state := .suspended }))).armHoldLine 0 = true :=
  ⟨by decide +kernel, by decide +kernel, by decide +kernel, by decide +kernel, ⟨_, rfl, rfl, rfl⟩, ⟨_, rfl, rfl, rfl⟩,
    ⟨_, rfl, rfl, rfl⟩, rfl, by decide +kernel⟩

/-- The frame statements suppose a next state alone, which every command answers in every state. -/
theorem witness_frames (c : Instr) : ∃ t, exec c entry = .next t := exec_answers c entry

theorem witness_TrainFrame : exit.role ≠ .entry ∧ ∃ t, exec .eyeBlockEdge exit = .next t := ⟨by decide, exec_answers _ _⟩

/-- The DRIVE whose sync has failed, with one car. -/
def flagged : State := (drive.setTrain [car 5 900 none]).setTs { (drive.setTrain [car 5 900 none]).ts with syncFailed := true }

/-- R199: the flag falls with the last car, and where a car remains it stands. -/
theorem witness_EyeAndSyncFrame :
    drive.role ≠ .exit ∧ drive.ts.held = false ∧
      (flagged.ts.syncFailed = true ∧ CarGone flagged (after (.depart 3 5 0) flagged) ∧
        TunnelEmpty (after (.depart 3 5 0) flagged) ∧ (after (.depart 3 5 0) flagged).ts.syncFailed = false) ∧
      let s := flagged.setTrain [car 5 900 none, car 6 100 none]
      s.ts.syncFailed = true ∧ CarGone s (after (.depart 3 5 0) s) ∧ ¬ TunnelEmpty (after (.depart 3 5 0) s) ∧
        (after (.depart 3 5 0) s).ts.syncFailed = true := by
  unfold CarGone TunnelEmpty
  decide +kernel

/-- The lanes that a SELECT at lane B and an admission there do not concern. -/
theorem witness_SalesFrame : (2 : Byte) ≠ laneCode .a ∧ Lane.a ≠ .b ∧ calling.ac.gate ≠ .calling .a ∧
    ∃ t, exec (.select 18 2 2 3 2 41207) calling = .next t := ⟨by decide, by decide, by decide, exec_answers _ _⟩

/-- Differences 1, 32,767, 32,768, 32,769 and 65,535. -/
theorem witness_TicketsOrderedAndIssued :
    ([1, 32767, 32768, 32769, 65535].map (fun d => ((1 : Ticket) + BitVec.ofNat 16 d - 1).toNat) = [1, 32767, 32768, 32769, 65535] ∧
      ticketOlder 2 32769 = true ∧ ticketOlder 2 32770 = false ∧ ticketOlder 32770 2 = false ∧ ticketOlder 32771 2 = true) ∧
    SalesLaw entry.su ∧ entry.su.queued (nextTicket entry.su.lastTicket) = false ∧
      ∀ e ∈ entry.su.credits, e.ticket = nextTicket entry.su.lastTicket → e.isOpen = false := by
  refine ⟨by decide, ?_, by decide +kernel, by decide +kernel⟩
  unfold SalesLaw
  exact ⟨by decide +kernel, by decide +kernel, by decide +kernel, by decide +kernel, by decide +kernel, by decide +kernel,
    by decide +kernel, by unfold Sale.drawn; decide +kernel⟩

/-- The bounds of the discount; a net that rounds up within 65,535, and one that does not. -/
theorem witness_PriceComputation :
    (65535 ≤ 65535 ∧ 50 ≤ 50) ∧ (100 ∈ [1, 5, 10, 25, 50, 100] ∧ (65500 + 100 - 1) / 100 * 100 ≤ 65535) ∧
      65535 < (65535 + 100 - 1) / 100 * 100 ∧ 100 ∣ 65500 ∧
      (catalogue.price 2 3 2 41207 [⟨41207, 1775, 0, 600, false⟩]).result = .quoted ∧ (41207 : Ticket) ≠ 0 ∧
      (catalogue.price 1 4 2 0 []).result = .quoted ∧
      (catalogue.plan 5 = none ∧ catalogue.addOn 1 = some ⟨300, 8, 6⟩ ∧ (6 : BitVec 16).getLsbD 3 = false ∧ 1 ∈ addOnNumbers 1 ∧
        (catalogue.plan 2).isSome = true ∧ (2 : Nat) ≤ 3 ∧
        ∀ n ∈ addOnNumbers 3, ∃ a ∈ (catalogue.addOn n).toList, a.allowed.getLsbD 2 = true) ∧
      ((catalogue.price 2 3 2 41207 [⟨41207, 1775, 0, 600, true⟩]).result = .noCredit ∧
        (catalogue.price 2 3 2 41207 []).due = 1450 ∧ ∀ e ∈ [(⟨41207, 1775, 0, 600, true⟩ : Credit)], e.isOpen = true) := by decide

theorem witness_ReportCredits :
    (∃ e : Credit, e.amount ≤ e.cap ∧ e.amount = e.cap) ∧ FromStation entry 4 .arch ∧ entry.role = .entry := by
  refine ⟨⟨⟨1, 900, 0, 900, false⟩, by decide⟩, by unfold FromStation; decide +kernel, by decide⟩

/-- A front at 16,383 exactly, and a length known and absent. -/
theorem witness_FrontAndRear :
    ((5000 : Pulse) - (car 900 16383 (some 420)).mark).toNat = 16383 ∧ (car 900 16383 (some 420)).length = some 420 ∧
      (car 900 5 none).length = none ∧ (car 900 16383 none).front 5000 = 16383 ∧ (car 900 0 (some 1023)).rear 5000 600 = -1023 ∧
      (car 900 16383 (some 1)).rear 5000 600 = 16382 := by decide

/-- A place between two cars two pulses apart, the last place of a train of 23 being the same. -/
theorem witness_PlacementStoresCar :
    let s := arch.setTrain [car 5 102 none, car 7 100 none]
    TrainLaw s ∧ s.holds 6 = false ∧ s.ts.train.length < 24 ∧ 1 ≤ s.ts.train.length ∧ s.role ≠ .exit ∧
      (permittedInterval s.pc.p 1 s.ts.train).1 = (permittedInterval s.pc.p 1 s.ts.train).2 ∧
      (∀ ch ∈ s.ss, ch.cfg.timeTrail = false) ∧ (∃ ch ∈ (runningOn 250).ss, ch.cfg.timeTrail = true) ∧
      TrainLaw exit ∧ exit.holds 6 = false ∧ exit.role = .exit ∧ { car 6 0 none with synced := true }.synced = true ∧
      (permittedInterval exit.pc.p 0 exit.ts.train).1 ≤ 3011 ∧ 3011 ≤ (permittedInterval exit.pc.p 0 exit.ts.train).2 ∧
      exit.cl.constants.eye + exit.cl.constants.tolerance < 3011 ∧ exit.ss = [] ∧ exit.lp.size < 16 := by
  refine ⟨by unfold TrainLaw; decide +kernel, by decide +kernel, by decide +kernel, by decide +kernel, by decide +kernel,
    by decide +kernel, by decide +kernel, by decide +kernel, by unfold TrainLaw; decide +kernel, ?_⟩
  decide +kernel

/-- Five bits of one level bring a stuff bit; priority values to 1,023. -/
theorem witness_SentBitsAndArbitration :
    frameOf (.purge 19 0) = some (19, .command 8 0) ∧ (∀ v ∈ [34, 38, 1023], v < 1024) ∧ (Frame.flow 0 0).kind < (Frame.report 1 0 0).kind ∧ (16 : Origin) < 17 :=
  ⟨rfl, by decide⟩

set_option maxRecDepth 100000 in
theorem witness_EndOfLoading :
    (HaltLaw State.reset ∧ ClaimLaw State.reset ∧ State.reset.lp.size = 0 ∧ State.reset.owns .startup = true ∧
      ∀ k ∈ allCauses, State.reset.owns k = true → k = .startup) ∧
    State.reset.inReset = false ∧ State.reset.hc.runState = .loading ∧ (judgeImage (memory driveBytes).toList).isSome = true ∧
      judgeImage (memory []).toList = none ∧ judgeImage (memory [1, 0, 54, 16]).toList = none ∧
      faultOriginOf (memory [1, 0, 54, 16]).toList = some 16 ∧ faultOriginOf (memory [1, 0, 54, 17]).toList = none ∧
      State.reset.lp.waiting = [] ∧ drive.hc.runState ≠ .loading := by
  refine ⟨⟨by simp only [HaltLaw, ← idle_iff, Channel.stopped]; decide +kernel, by unfold ClaimLaw; decide +kernel, ?_⟩, ?_⟩ <;> decide +kernel

/-- The ENTRY under ESTOP with a sale PRICED at lane B that draws on a credit, or on none. -/
def stoppedSale (credit : Ticket) : State :=
  holding ((pricing 500).setLane .b { (pricing 500).su.laneB with openSale := some { sale with creditTicket := credit } }) .estop

theorem witness_ResetsAndRestart :
    (Commands (holding drive .estop) 19 0 ∧ (holding drive .estop).grade = some .halt) ∧
      (faultyBetween.inReset = false ∧ faultyBetween.hc.runState = .configFault ∧ faultyBetween.cl.faultOrigin = some 4) ∧
      (ClaimLaw drive ∧ Commands drive 19 2 ∧ drive.grade ≠ some .halt) ∧ drive.role ≠ .entry ∧ drive.hc.runState ≠ .configFault ∧
      entry.role = .entry ∧ (pricing 500).openSale .b = some { sale with tendered := 500 } ∧
      ((Commands (stoppedSale 0) 19 0 ∧ (stoppedSale 0).grade = some .halt ∧ (stoppedSale 0).role = .entry) ∧
        Commands (stoppedSale 41207) 19 0 ∧ (stoppedSale 41207).grade = some .halt) ∧
      (after (.restart 19 0) (stoppedSale 41207)).su.credits = [⟨41207, 1775, 0, 600, false⟩] ∧
      (after (.restart 19 0) (stoppedSale 0)).su.credits = [] := by
  unfold Commands ClaimLaw
  decide +kernel

theorem witness_PulseTickAndWindow :
    drive.inReset = false ∧ TrainLaw (drive.setTrain [car 5 16382 none]) ∧ drive.ts.held = false ∧ drive.pc.v ≠ 0 ∧
      (∀ c ∈ (drive.setTrain [car 5 16382 none]).ts.train, c.front 5000 < 16383) ∧ drive.active = true ∧
      (drive.setPc { drive.pc with windowTicks := 250 }).pc.windowTicks = 250 ∧ 4194303 ≤ 4194303 ∧
      (let s := drive.mapPeers (fun r => { r with age := 400 })
      s.hc.runState = .run ∧ (∃ r ∈ s.pt.peers, r.heard = true ∧ r.age ≤ 4 * 100 ∧ 4 * 100 < min (r.age + 1) 65535) ∧
        (after .tick s).owns .silent = true) ∧
      drive.due .beaconPeriodExpiry = false ∧ drive.due .speedWindowEnd = false ∧ Pace.idle.running = false ∧
      (timedOut 500).active = true ∧ ((timedOut 500).su.lane .b).timeout.ranOut = true := by
  refine ⟨by decide, by unfold TrainLaw; decide +kernel, by decide, by decide, by decide +kernel, by decide, by decide, by decide,
    by decide +kernel, by decide, by decide, by decide, by decide, by decide⟩

/-- One pulse before, in turn: car 900 served at both channels; the window of the spray closes; it opens; it stays PENDING at
both. Before that pulse a TIME-trail dryer serves car 900, the pulse part of its window about to end. -/
def pulsed : List State :=
  [archWith 2300 [.engaged, .opened] [⟨.active, 400⟩, ⟨.active, 180⟩],
    archWith 2660 [.ready, .opened] [⟨.given, 570⟩, ⟨.active, 259⟩],
    archWith 2119 [.engaged, .closed] [⟨.active, 219⟩, ⟨.pending, 0⟩],
    archWith 1000 [.ready, .closed] [⟨.pending, 0⟩, ⟨.pending, 0⟩],
    (arch.setSs [{ createChannel { dryerCfg with position := 2200 } false with state := .running }]).setTrain
      [{ car 900 2620 (some 420) with progress := [⟨.active, 249⟩], eye := .passed }]]

/-- The progress of the one car after the pulse. -/
def progressAfter (s : State) : List ProgressEntry := (after .encPulse s).ts.train.flatMap (fun c => c.progress)

/-- The EXIT one pulse before an UNSEEN-YET car comes too far, and the DRIVE one pulse before a car retires. -/
theorem witness_PulseWorksChannelsAndTrain :
    (∀ s ∈ pulsed, s.active = true ∧ TrainLaw s ∧ s.role ≠ .exit) ∧
      pulsed.map progressAfter = [[⟨.active, 401⟩, ⟨.active, 181⟩], [⟨.given, 570⟩, ⟨.missed, 259⟩],
        [⟨.active, 220⟩, ⟨.active, 0⟩], [⟨.pending, 0⟩, ⟨.pending, 0⟩], [⟨.active, 249⟩]] ∧
      (after .encPulse (exit.setTrain [car 5 3010 (some 400)])).ts.train.map (fun c => c.eye) = [.unseen] ∧
      drive.keeper = true ∧ arch.keeper = false ∧
      ticketsOf (arch.setTrain [{ car 5 (arch.retirePoint + 420) (some 420) with eye := .passed }]).ts.train = [5] ∧
      (after .encPulse (arch.setTrain [{ car 5 (arch.retirePoint + 420) (some 420) with eye := .passed }])).ts.train = [] := by
  refine ⟨fun s h => ?_, by decide +kernel⟩
  fin_cases h <;> (unfold TrainLaw; decide +kernel)

/-- One pulse before, in turn: the spray opens, with 14 claimed elsewhere and with 15; a PARKED brush makes READY for car 900; the
pulse part of a dryer's window ends. -/
def changing : List State :=
  [aboutToOpen, aboutToOpen.mapPeers (fun r => if r.station = 2 then { r with claim := 15 } else r),
    archWith 1799 [.parked, .closed] [⟨.pending, 0⟩, ⟨.pending, 0⟩],
    (arch.setSs [{ createChannel { dryerCfg with position := 2200 } false with state := .running },
      { createChannel sprayCfg false with state := .closed }]).setTrain
      [{ car 900 2620 (some 420) with progress := [⟨.active, 249⟩, ⟨.pending, 0⟩], eye := .passed }]]

theorem changing_laws : ∀ s ∈ changing, HaltLaw s ∧ ChannelLaw s ∧ ClaimLaw s := by
  intro s h
  fin_cases h <;>
    exact ⟨by simp only [HaltLaw, ← idle_iff, Channel.stopped]; decide +kernel,
      channelLaw_of_each (by decide) (by decide +kernel), by unfold ClaimLaw; decide +kernel⟩

/-- R66: the PARKED brush becomes READY at twice its lead; R62: the spray opens at 20 of 20, and is DEFERRED at 21. -/
theorem witness_PulseMovesChannelStates :
    (∀ s ∈ changing, HaltLaw s ∧ ChannelLaw s ∧ ClaimLaw s) ∧
      (∀ s ∈ changing, s.active = true ∧ s.halted = false ∧ (after .encPulse s).halted = false ∧ s.ps.purge = .none ∧
        (after .encPulse s).ps.purge = .none) ∧
      changing.map (fun s => (after .encPulse s).ss.map (fun ch => ch.state)) =
        [[.engaged, .opened], [.engaged, .deferred], [.ready, .closed], [.runOn, .opened]] :=
  ⟨changing_laws, by decide +kernel, by decide +kernel⟩

theorem witness_FieldInputEdges :
    (drive.inputs.get .chemLow).pin ≠ true ∧ arch.inputs.overTemp.get 3 ≠ true ∧ arch.active = true ∧
      (∃ ch, arch.ss[0]? = some ch ∧ ch.cfg.kind = .brush) ∧
      (∀ x ∈ [true, false], (edging .estop x drive).inputs.estop.due x = true ∧ (edging .pause x drive).inputs.pause.due x = true ∧
        (edging .chemLow x drive).inputs.chemLow.due x = true ∧ (edging .freeze x arch).inputs.freeze.due x = true ∧
        ((edging .presB x calling).inputs.get (presencePin .b)).due x = true) ∧
      (edging .freeze true arch).purgeActive = true ∧ (edging .freeze false (frozen 4)).purgeActive = true ∧
      (edging .presB false calling).active = true ∧ (edging .presB false calling).role = .entry ∧
      ((Debounced.tick .eye)^[10] ⟨true, false, Pace.load 10⟩).due true = true :=
  ⟨by decide, by decide, by decide, ⟨_, rfl, rfl⟩, by decide +kernel, by decide, by decide, by decide, by decide,
    by decide +kernel⟩

/-- The EXIT under MISSING with two UNSEEN cars and one between them that its eye has seen. -/
def withLostCars : State :=
  (holding exit .missing).setTrain [{ car 301 3400 none with eye := .unseen }, { car 302 3300 none with eye := .passed },
    { car 303 3200 none with eye := .unseen }]

theorem witness_ResumeReleases :
    ((withLostCars.role = .exit ∧ withLostCars.owns .missing = true ∧ TrainLaw withLostCars ∧ ProgressLaw withLostCars ∧
      withLostCars.lp.size + withLostCars.resumed.length + 2 ≤ 16 ∧ Commands withLostCars 19 0) ∧
      (after (.resume 19 0) withLostCars).lp.waiting.map (fun q => q.frame) =
        [.release 5, .depart 301 1, .depart 303 1] ∧ ticketsOf (after (.resume 19 0) withLostCars).ts.train = [302] ∧
      exit.owns .missing = false ∧ exit.owns .closing = false) ∧
    (edging .resumeKey true drive).active = true ∧ (edging .resumeKey true drive).inputs.resumeKey.due true = true ∧
      Commands drive 19 0 ∧ (holding drive .skew).owns .skew = true ∧
      (holding drive .skew).resumable .skew = true ∧ (holding drive .runaway).resumable .runaway = false ∧
      readied.owns .startup = true ∧ readied.hc.runState = .ready ∧ readied.ts.syncFailed = false ∧
      (inState drive .standby).hc.runState = .standby := by
  unfold Commands TrainLaw ProgressLaw
  decide +kernel

/-- The EXIT with car 300 at the edge of the tolerance, and a clear mark 59 pulses old. -/
def atEye : State := edging .eye true ((exit.setTrain [car 300 2990 (some 420)]).setTs
  { (exit.setTrain [car 300 2990 (some 420)]).ts with lastClear := some 4941 })

/-- The EXIT with car 300 under the eye. -/
def underEye : State := edging .eye false (atEye.setTs { atEye.ts with phase := .matched 300, blockMark := some 4600 })

theorem witness_EyeEdges :
    (TrainLaw atEye ∧ atEye.active = true ∧ atEye.reconciles = true ∧ atEye.ts.held = false ∧ atEye.pc.v ≠ 0 ∧
      atEye.inputs.eye.due true = true ∧ atEye.matching = some 300 ∧ exit.matching = none ∧
      atEye.ts.lastClear = some 4941 ∧ (atEye.pc.p - 4941).toNat < atEye.cl.constants.gap ∧ atEye.cl.constants.eye ≤ 8191) ∧
    (∀ x y c, atEye.ts.train = x ++ c :: y → c.ticket = 300 →
      (∀ d ∈ x, atEye.cl.constants.eye < d.front atEye.pc.p) ∧ ∀ d ∈ y, d.front atEye.pc.p < atEye.cl.constants.eye) ∧
    (underEye.active = true ∧ underEye.reconciles = true ∧ underEye.ts.held = false ∧ underEye.pc.v ≠ 0 ∧
      underEye.inputs.eye.due false = true ∧ underEye.ts.phase = .matched 300 ∧ underEye.role = .exit ∧ underEye.lp.size ≤ 12) ∧
    ((underEye.car 300).map (fun c => c.length) = some (some 420) ∧ underEye.ts.blockMark = some 4600 ∧
      underEye.cl.constants.tolerance < (((underEye.pc.p - 4600).toNat : Int) - 420).natAbs ∧
      ¬ underEye.cl.constants.tolerance < (((underEye.pc.p - 4590).toNat : Int) - 420).natAbs) ∧
    ClaimLaw (underEye.setPc { underEye.pc with v := 0 }) ∧ ClaimLaw (atEye.setTs { atEye.ts with held := true }) := by
  refine ⟨⟨by unfold TrainLaw; decide +kernel, ?_⟩, fun x y c h _ => ?_, by decide +kernel, by decide +kernel,
    by unfold ClaimLaw; decide +kernel, by unfold ClaimLaw; decide +kernel⟩
  · decide +kernel
  · have hl := congrArg List.length h
    have : x = [] ∧ y = [] := by
      cases x <;> cases y <;> simp_all [atEye, edging, State.setTrain, State.setTs, State.setInput, State.setInputs]
    obtain ⟨rfl, rfl⟩ := this
    simp

/-- The EXIT at rest with car 300, in a phase of the eye and at a level. -/
def atRest (front : Nat) (ph : EyePhase) (blocked : Bool) : State :=
  let s := ((exit.setTrain [car 300 front (some 420)]).setPc { exit.pc with v := 0 }).setInput .eye ⟨blocked, blocked, Pace.idle⟩
  s.setTs { s.ts with phase := ph, blockMark := if ph = .clear then none else some 4581, lastClear := some 4990 }

/-- The states in which a pulse samples the eye: each row of R35, and the first pulse in READY. -/
def sampling : List State :=
  [atRest 2999 .clear false, atRest 2999 .clear true, atRest 2999 .unmatched true, atRest 2000 .clear true,
    atRest 3000 (.matched 300) true, atRest 3000 (.matched 300) false, atRest 2000 .unmatched false,
    (inState (atRest 2999 .clear true) .ready).setTs { (atRest 2999 .clear true).ts with held := true }]

/-- The ENTRY at rest with a car in its beam. -/
def entryAtRest : State := (entry.setPc { entry.pc with v := 0 }).setInput .eye ⟨true, true, Pace.idle⟩

/-- What the reconciler shows after a pulse. -/
def eyeAfter (s : State) : EyePhase × Option Pulse × Option Pulse × Bool :=
  let t := after .encPulse s
  (t.ts.phase, t.ts.blockMark, t.ts.lastClear, t.owns .unexpected)

/-- R35: no gap check is made 11 pulses after the last clear mark; the clear edge of a block of 420 departs car 300; R150. -/
theorem witness_PulseSamplesEye :
    (∀ s ∈ sampling, s.active = true ∧ TrainLaw s ∧ SamplesEye s) ∧
      (sampling.map eyeAfter =
        [(.clear, none, some 4990, false), (.matched 300, some 5001, some 4990, false), (.matched 300, some 5001, some 4990, false),
          (.unmatched, some 5001, some 4990, true), (.matched 300, some 4581, some 4990, false), (.clear, none, some 5001, false),
          (.clear, none, some 4990, false), (.matched 300, some 5001, some 4990, false)] ∧
        sampling.map (fun s => s.pulsed.matching) =
          [some 300, some 300, some 300, none, some 300, some 300, none, some 300] ∧
        (∀ s ∈ sampling, (after .encPulse s).owns .closing = false ∧ (after .encPulse s).ts.held = false) ∧
        ((atRest 3000 (.matched 300) false).role = .exit ∧ (atRest 3000 (.matched 300) false).ss = [] ∧
          (after .encPulse (atRest 3000 (.matched 300) false)).lp.waiting.map (fun q => q.frame) = [.depart 300 0])) ∧
      (¬ SamplesEye exit ∧ ¬ SamplesEye ((inState exit .syncing).setTs { exit.ts with held := true })) ∧
      (entryAtRest.role = .entry ∧ entryAtRest.ac.gate = .shut ∧ (after .encPulse entryAtRest).owns .unexpected = true) := by
  unfold TrainLaw SamplesEye
  exact ⟨by decide +kernel, by decide +kernel, by decide +kernel, by decide +kernel⟩

theorem witness_BlockEdgeAdmits :
    let s := edging .eye true ((calling.setSu { calling.su with laneA := { calling.su.laneA with
      queue := [queuedSale 41256 .paid] } }).setInput .presA ⟨true, true, Pace.idle⟩)
    s.active = true ∧ s.role = .entry ∧ s.inputs.eye.due true = true ∧ s.ac.gate = .calling .b ∧
      s.head .b = some (queuedSale 41255 .called) ∧ s.candidate .a = true ∧ calling.candidate .a = false ∧ s.ss = [] ∧
      s.lp.size ≤ 12 ∧ s.holds 41255 = false ∧ s.ts.train.length < 24 ∧ (∀ c ∈ s.ts.train, 0 < c.front s.pc.p) ∧
      (edging .eye true entry).ac.gate = .shut ∧ (edging .eye true entry).inputs.eye.due true = true ∧ entry.pc.v ≠ 0 ∧
      ⟨.admitCar 41255 1 0xC3 2 2, some 5000⟩ ∈ (after .encPulse (after .eyeBlockEdge s)).lp.waiting := by decide +kernel

/-- The ENTRY while car 9 enters, its length Lmax exactly. -/
def enteringCar : State :=
  (edging .eye false (entry.setAc { entry.ac with gate := .entering ⟨9, .a, 4400⟩ })).setTrain [car 9 600 none]

theorem witness_EntryEndsAndGateCounters :
    TrainLaw enteringCar ∧ (enteringCar.active = true ∧ enteringCar.role = .entry ∧ enteringCar.inputs.eye.due false = true ∧
      enteringCar.ac.gate = .entering ⟨9, .a, 4400⟩ ∧ min (enteringCar.pc.p - 4400).toNat 1023 = enteringCar.cl.constants.lmax ∧
      enteringCar.lp.size ≤ 12) ∧
      ((calling.setAc { calling.ac with callTimeout := Pace.out }).ac.callTimeout.ranOut = true ∧ calling.ac.gate = .calling .b ∧
        (calling.su.lane .b).queue = queuedSale 41255 .called :: [] ∧ (queuedSale 41255 .called).callTimeouts < 2 ∧
        2 ≤ { queuedSale 41255 .called with callTimeouts := 2 }.callTimeouts) ∧
      (entry.setAc { entry.ac with gate := .spacing, gap := Pace.out }).ac.gap.ranOut = true ∧
      (inState entry .ready).hc.runState ≠ .run := by
  refine ⟨by unfold TrainLaw; decide +kernel, ?_⟩
  decide +kernel

/-- A brush with everything running, one over sample short of the stall time. -/
def stalling : Channel :=
  { createChannel brushCfg false with
    state := .engaged, level := 5, overRun := 290, override := true, sustain := Pace.out, hot := Pace.out, sample := Pace.out }

/-- The expected current of 3.9 and the margin: 40 + 5 · 12 + 30. -/
theorem witness_threshold :
    min (min (stalling.cfg.iIdle + stalling.level * stalling.cfg.iStep) 255 + stalling.cfg.margin) 255 = 130 := by decide

theorem witness_ThermalAndCurrent :
    ClaimLaw (withBrush (fun _ => stalling)) ∧ (withBrush (fun _ => stalling)).active = true ∧
      (withBrush (fun _ => stalling)).ss[0]? = some stalling ∧ stalling.sustain.ranOut = true ∧ stalling.override = true ∧
      stalling.recorded = false ∧ stalling.hot.ranOut = true ∧ stalling.sample.ranOut = true ∧
      ({ stalling with holdOff := Pace.out } : Channel).holdOff.ranOut = true ∧ stalling.state = .engaged ∧ 130 < (131 : Byte).toNat ∧ ¬ 130 < (130 : Byte).toNat ∧
      stalling.holdOff.running = false ∧ stalling.cfg.stallTime ≤ min (stalling.overRun + 10) 2550 ∧
      stalling.overRun < stalling.cfg.stallTime ∧ ((withBrush (fun _ => stalling)).ss.map (fun x => x.override)) = [true, false] ∧
      ClaimLaw (arch.setSs [stalling, stalling]) ∧ (arch.setSs [stalling, stalling]).ss.map (fun x => x.override) = [true, true] := by
  unfold ClaimLaw
  decide +kernel

theorem witness_ChannelTimersAndDrive :
    let s := withBrush (fun ch => { ch with state := .ready, idle := Pace.out, drivePhase := 8 })
    (ClaimLaw s ∧ s.active = true ∧
      (∃ ch, s.ss[0]? = some ch ∧ ch.cfg.kind = .brush ∧ ch.idle.ranOut = true ∧ ch.drivePhase = 8) ∧ 7 < 8) ∧
    TrainLaw (runningOn 250) ∧ (runningOn 250).active = true ∧
      ∃ ch, (runningOn 250).ss[0]? = some ch ∧ ch.runOn.ranOut = true ∧ ch.runOnCar = some 900 ∧
        (ch.windowLength (runningOn 250).cl.constants.lmax (car 900 2700 (some 420)) + 1) / 2 = 250 :=
  ⟨⟨by unfold ClaimLaw; decide +kernel, by decide, ⟨_, rfl, by decide, by decide, by decide⟩, by decide⟩,
    by unfold TrainLaw; decide +kernel, by decide, _, rfl, by decide, by decide, by decide⟩

theorem witness_PurgeStopAndStandby :
    ((HaltLaw arch ∧ ClaimLaw arch ∧ HaltLaw (frozen 3) ∧ ClaimLaw (frozen 3)) ∧ arch.ps.request = false ∧
      PurgeDue (arch.setPs { arch.ps with request := true }) ∧ arch.ps.debt ≠ 4 ∧
      (after (.purge 19 0) arch).ps.purge = .normal ∧ (after (.purge 19 0) arch).fb = ⟨6, 0⟩ ∧
      (after .purgeIntervalExpiry (frozen 3)).ps.purge = .forced) ∧
    (arch.active = true ∧ (frozen 3).ps.interval.ranOut = true ∧ (frozen 3).purgeActive = true ∧ (frozen 3).ps.purge = .none ∧
      (frozen 3).halted = false) ∧ purging.ps.duration.ranOut = true ∧
      (drive.setHc { drive.hc with stop := Pace.out, standby := Pace.out }).hc.stop.ranOut = true ∧
      (drive.setHc { drive.hc with stop := Pace.out, standby := Pace.out }).hc.standby.ranOut = true ∧
      ({ purging.ps with debt := 1 }).debt ≤ 1 ∧ Commands arch 19 4 ∧
      (∃ ch, (withBrush (fun ch => { ch with state := .ready })).ss[0]? = some ch ∧ ch.cfg.kind = .brush ∧ ch.state = .ready) ∧
      (drive.setPc { drive.pc with lastPulseAge := 249 }).pc.lastPulseAge ≤ 249 ∧
      249 < (drive.setPc { drive.pc with lastPulseAge := 250 }).pc.lastPulseAge ∧ drive.hc.runState = .run ∧
      (inState drive .standby).hc.runState ≠ .run :=
  ⟨⟨⟨by simp only [HaltLaw, ← idle_iff, Channel.stopped]; decide +kernel, by unfold ClaimLaw; decide +kernel,
      by simp only [HaltLaw, ← idle_iff, Channel.stopped]; decide +kernel, by unfold ClaimLaw; decide +kernel⟩, by decide,
      by simp only [PurgeDue, channels_iff]; decide +kernel, by decide, by decide +kernel⟩, by decide +kernel, by decide +kernel, by decide, by decide, by decide, by unfold Commands; decide +kernel,
    ⟨_, rfl, by decide, by decide⟩, by decide, by decide, by decide, by decide⟩

theorem witness_OperatorCommands :
    (Commands (holding drive .opPause) 19 0 ∧ (holding drive .opPause).owns .opPause = true ∧ (holding drive .opPause).lp.size ≤ 14 ∧
      (∀ q ∈ (holding drive .opPause).lp.waiting, (Frame.release 14).partner q.frame = false) ∧
      (after (.unpause 19 0) (holding drive .opPause)).lp.waiting.map (fun q => q.frame) = [.release 14]) ∧
    (Commands (holding drive .opHold) 19 0 ∧ (holding drive .opHold).owns .opHold = true ∧
      ∀ q ∈ (holding drive .opHold).lp.waiting, (Frame.release 17).partner q.frame = false) ∧
    Commands drive 19 0 ∧ Commands drive 19 2 ∧ drive.owns .opPause = false ∧ drive.lp.size < 16 ∧
      ∀ q ∈ drive.lp.waiting, q.frame ≠ .release 14 := by
  unfold Commands
  decide +kernel

theorem witness_ClearTrainCommand :
    let s := (holding entry .estop).setPc { entry.pc with v := 0 }
    Commands s 19 0 ∧ s.grade = some .halt ∧ s.pc.v = 0 ∧ s.role = .entry ∧ arch.role = .arch ∧ arch.lp.size ≤ 14 ∧
      drive.grade ≠ some .halt ∧ drive.pc.v ≠ 0 ∧ ClaimLaw drive ∧ Commands drive 19 0 := by
  unfold Commands ClaimLaw
  decide +kernel

/-- The ARCH station with two sprays OPEN, and a car in the windows of both, or two cars, the older in that of channel 1. -/
def twoSprays (cars : List (Ticket × Nat × List ProgressEntry)) : State :=
  ((arch.setSs (List.replicate 2 { createChannel sprayCfg false with state := .opened })).setTrain
    (cars.map (fun x => { car x.1 x.2.1 (some 420) with progress := x.2.2, eye := .passed }))).setFb ⟨12, 901⟩

def oneCarAtBoth : State := twoSprays [(901, 2300, [⟨.active, 180⟩, ⟨.active, 180⟩])]
def olderAtFirst : State := twoSprays [(900, 2500, [⟨.active, 180⟩, ⟨.given, 260⟩]), (901, 2300, [⟨.pending, 0⟩, ⟨.active, 180⟩])]
def newerAtFirst : State := twoSprays [(900, 2500, [⟨.given, 260⟩, ⟨.active, 180⟩]), (901, 2300, [⟨.active, 180⟩, ⟨.pending, 0⟩])]

theorem twoSprays_laws : ∀ s ∈ [oneCarAtBoth, olderAtFirst, newerAtFirst], HaltLaw s ∧ ChannelLaw s ∧ ClaimLaw s := by
  intro s h
  fin_cases h <;>
    exact ⟨by simp only [HaltLaw, ← idle_iff, Channel.stopped]; decide +kernel,
      channelLaw_of_each (by decide) (by decide +kernel), by unfold ClaimLaw; decide +kernel⟩

/-- A station in a normal purge. -/
def purgingNormally : State := after (.purge 19 0) arch

/-- What a station is after a FLOW, its own effect apart. -/
def heard (s : State) (n claim : Nat) (newest : Ticket) : State :=
  s.setPt { s.pt with peers := peersWith n (fun r => { r.hears with claim := claim, newest := newest }) s.pt.peers }

theorem witness_PeerCausesAndClaims :
    ((∀ s ∈ [oneCarAtBoth, olderAtFirst, newerAtFirst], HaltLaw s ∧ ChannelLaw s ∧ ClaimLaw s) ∧
      (∀ s ∈ [oneCarAtBoth, olderAtFirst, newerAtFirst], ShedDue (heard s 2 9 899) ∧ ¬ ShedDue (heard s 2 8 899) ∧
        ¬ ShedDue (heard s 2 9 902) ∧ (heard s 2 9 899).totalClaim = 21 ∧ s.active = true ∧ s.role = .arch) ∧
      [oneCarAtBoth, olderAtFirst, newerAtFirst].map (fun s => (after (.flow 2 9 899) s).ss.map (fun ch => ch.state)) =
        [[.opened, .deferred], [.opened, .deferred], [.deferred, .opened]] ∧
      (sprayStamp 0 olderAtFirst.ts.train, sprayStamp 1 olderAtFirst.ts.train) = (900, 901)) ∧
    ((HaltLaw purgingNormally ∧ ChannelLaw purgingNormally ∧ ClaimLaw purgingNormally) ∧ purgingNormally.ps.purge = .normal ∧
      ShedDue (heard purgingNormally 2 15 7) ∧ ¬ ShedDue (heard purgingNormally 2 14 7) ∧
      (after (.flow 2 15 7) purgingNormally).ps.purge = .none ∧ (after (.flow 2 14 7) purgingNormally).ps.purge = .normal) ∧
    drive.active = true ∧ (4 : Origin) ≠ drive.ownOrigin ∧ drive.expects 4 = true ∧ (17 : Byte).toNat = Cause.opHold.rank ∧
      Cause.opPause.grade ≠ .hold ∧ (∀ k ∈ allCauses, (18 : Byte).toNat ≠ k.rank) ∧ arch.role = .arch ∧ arch.active = true ∧
      (2 : Origin) ≠ arch.ownOrigin ∧ arch.expects 2 = true := by
  refine ⟨⟨twoSprays_laws, ?_⟩, ⟨⟨?_, ?_, ?_⟩, ?_⟩, ?_⟩
  · unfold ShedDue; decide +kernel
  · simp only [HaltLaw, ← idle_iff, Channel.stopped]; decide +kernel
  · exact channelLaw_of_each (by decide +kernel) (by decide +kernel)
  · unfold ClaimLaw; decide +kernel
  · unfold ShedDue; decide +kernel
  · decide +kernel

/-- The ARCH station halted, every channel suspended. -/
def haltedArch : State := (holding arch .estop).setSs (arch.ss.map (fun ch => { ch with state := .suspended }))

/-- The DRIVE with 24 cars. -/
def fullTrain : State := drive.setTrain ((List.range 24).map (fun i => car (BitVec.ofNat 16 (i + 1)) (9000 - i) none))

theorem witness_AdmitLengthAndDepart :
    (TrainLaw fullTrain ∧ TrainLaw threeCars) ∧ (FromStation fullTrain 1 .entry ∧ FromStation threeCars 1 .entry) ∧
      FromStation entry 3 .exit ∧ (fullTrain.holds 1 = true ∧ fullTrain.holds 99 = false ∧ fullTrain.ts.train.length = 24) ∧
      (threeCars.ts.train.length < 24 ∧ ∃ c ∈ threeCars.ts.train, c.front threeCars.pc.p = 0) ∧
      ((drive.setTrain [car 5 1 none]).ts.train.length < 24 ∧
        (∀ c ∈ (drive.setTrain [car 5 1 none]).ts.train, 0 < c.front 5000) ∧ drive.ss = []) ∧
      (haltedArch.halted = true ∧ (∀ ch ∈ haltedArch.ss, ch.state = .suspended) ∧ haltedArch.ss ≠ [] ∧
        haltedArch.fromRole 1 .entry = true) ∧ SalesLaw entry.su := by
  refine ⟨?_, ?_, ?_, by decide +kernel, by decide +kernel, by decide +kernel, by decide +kernel, witness_TicketsOrderedAndIssued.2.1⟩
  · unfold TrainLaw; decide +kernel
  · unfold FromStation; decide +kernel
  · unfold FromStation; decide +kernel

/-- The DRIVE in JOINING with one station still to be heard. -/
def oneToHear : State := (inState drive .joining).mapPeers (fun r => { r with heard := r.station != 4 })

theorem witness_HeardAndOwnOriginFrames :
    drive.active = true ∧ (4 : Origin) ≠ drive.ownOrigin ∧ drive.expects 4 = true ∧ oneToHear.active = true ∧
      oneToHear.expects 4 = true ∧ oneToHear.hc.runState = .joining ∧
      (∀ x ∈ oneToHear.pt.peers, x.station ≠ (4 : Origin).toNat → x.heard = true) ∧
      (Instr.depart 2 9 0).origin = some drive.ownOrigin ∧ (Instr.release 2 3).origin = some drive.ownOrigin := by decide +kernel

/-- One frame for each of the nine kinds of unwelcome frames, a frame of no origin, one in LOADING, a RESTART that a faulty station
does not accept, and the code above the eight. -/
theorem witness_UnwelcomeFrames :
    (drive.active = true ∧ exit.active = true ∧ entry.active = true ∧ Unwelcome drive (.pause 17 0) ∧ Unwelcome drive (.pause 19 3) ∧
      Unwelcome drive (.admitCar 4 5 9 0 1 1) ∧ Unwelcome exit (.depart 2 5 0) ∧ Unwelcome drive (.flow 4 9 899) ∧
      Unwelcome drive (.report 4 5 0 0) ∧ Unwelcome drive (.halt 19 9 1 9) ∧ Unwelcome drive (.syncReq 4 3) ∧
      Unwelcome drive (.syncEnd 3 2 0) ∧ Unwelcome entry (.quote 3 1 0 0 0 0 0) ∧
      (∀ l : Lane, (2 : Byte) = laneCode l → entry.role ≠ .entry ∨ entry.otherOrigin 17 (kioskOf l) = false) ∧
      (Instr.select 17 2 2 3 2 41207).origin = some 17) ∧
    (Unconfigured drive 9 ∧ (Instr.release 9 1).origin = some 9 ∧ State.reset.active = false ∧ faultyBetween.active = false ∧
      (Instr.restart 19 5).origin = some 19 ∧ (5 : Byte) ≠ 0 ∧ ∀ f, faultyBetween.cl.faultOrigin = some f → (5 : Byte).toNat ≠ f.toNat) ∧
    (ClaimLaw drive ∧ (19 : Origin) ≠ drive.ownOrigin ∧ drive.expects 19 = false ∧ drive.expects 4 = true ∧
      drive.hc.runState ≠ .joining) ∧ 8 < (9 : Byte).toNat := by
  refine ⟨?_, ⟨⟨by decide, by decide, fun k => by cases k <;> decide⟩, by decide, by decide, by decide, by decide, by decide, ?_⟩,
    by unfold ClaimLaw; decide, by decide⟩
  · simp only [Unwelcome]
    refine ⟨by decide, by decide, by decide, by decide, by decide, by decide, by decide, by decide, by decide, by decide, by decide,
      by decide, trivial, fun l => by cases l <;> decide, rfl⟩
  · intro f h
    cases h
    decide

theorem witness_BeaconWritesRecord :
    (flagged.fromRole 3 .exit = true ∧ flagged.ts.syncFailed = true ∧ ¬ TunnelEmpty (after (.beacon 3 0x98 0 0 5000 0 0 0x1234 0) flagged) ∧
      let s := flagged.setTrain []
      s.fromRole 3 .exit = true ∧ s.ts.syncFailed = true ∧ TunnelEmpty (after (.beacon 3 0x98 0 0 5000 0 0 0x1234 0) s) ∧
        (after (.beacon 3 0x98 0 0 5000 0 0 0x1234 0) s).ts.syncFailed = false) ∧
    drive.active = true ∧ (4 : Origin) ≠ drive.ownOrigin ∧ drive.expects 4 = true ∧ drive.peer 4 = some (peer 4 .arch) ∧
      (peer 4 .arch).offset = some 0 ∧ beaconState 0xD8 ≠ .configFault ∧ (beaconState 0xD8).settled = true ∧
      beaconRole 0xD8 = .arch ∧ (0x1235 : Half) ≠ drive.cl.constants.digest ∧ beaconRole 0x18 ≠ .arch ∧
      drive.cl.constants.skewLimit < ((5000 : Pulse) - 4975 - 0).toInt.natAbs ∧
      ((5000 : Pulse) - 4976 - 0).toInt.natAbs ≤ drive.cl.constants.skewLimit ∧
      (drive.rebase.peer 4).map (fun r => r.offset) = some none ∧ drive.hc.runState.settled = true ∧
      (beaconState 0xC8).settled = false ∧ ((syncing 0).rebase.peer 2).map (fun r => r.offset) = some none ∧
      (syncing 0).hc.runState = .syncing ∧ (syncing 0).active = true ∧ (syncing 0).expects 2 = true ∧
      oneToHear.hc.runState = .joining ∧ oneToHear.active = true ∧ oneToHear.expects 1 = true ∧
      (oneToHear.rebase.peer 1).map (fun r => r.offset) = some none ∧
      ∃ x ∈ oneToHear.rebase.pt.peers, x.station ≠ (1 : Origin).toNat ∧ x.heard = false := by
  unfold TunnelEmpty
  decide +kernel

theorem witness_SelectRefusals :
    FromKiosk entry 18 .b ∧ entry.lp.size ≤ 14 ∧ (inState entry .syncing).hc.runState.sells = false ∧ entry.hc.runState.sells = true ∧
      4 ≤ (List.replicate 4 (queuedSale 41255 .paid)).length ∧ (pricing 1).openSale .b = some { sale with tendered := 1 } ∧
      0 < { sale with tendered := 1 }.tendered ∧ entry.openSale .b = none ∧ (entry.su.lane .b).queue.length < 4 ∧
      (entry.su.catalogue.price 7 0 0 0 entry.su.credits).result ≠ .quoted := by
  unfold FromKiosk
  decide +kernel

theorem witness_SelectMakesSale :
    (ProgressLaw entry ∧ ProgressLaw (pricing 0)) ∧ FromKiosk entry 18 .b ∧ entry.hc.runState.sells = true ∧ (entry.su.lane .b).queue.length < 4 ∧
      (entry.su.catalogue.price 2 3 2 41207 entry.su.credits).result = .quoted ∧
      (entry.su.catalogue.price 2 3 2 41207 entry.su.credits).due ≠ 0 ∧ (entry.su.catalogue.price 4 0 0 0 []).result = .quoted ∧
      (entry.su.catalogue.price 4 0 0 0 []).due = 0 ∧ entry.openSale .b = none ∧ entry.lp.size < 16 ∧
      FromKiosk (pricing 0) 18 .b ∧ (pricing 0).openSale .b = some sale ∧ sale.tendered = 0 ∧
      (after (.select 18 2 2 3 2 41207) (pricing 0)).lp.waiting.map (fun q => q.frame) =
        [.quote 2 3119 0 1700 600 850, .void 2 3118 3 0] ∧
      (after (.select 18 2 7 0 0 0) (pricing 0)).lp.waiting.map (fun q => q.frame) = [.quote 2 0 1 0 0 0, .void 2 3118 3 0] ∧
      (after (.select 18 2 7 0 0 0) (pricing 0)).openSale .b = none ∧
      (after (.select 18 2 7 0 0 0) (pricing 0)).su.credits = [⟨41207, 1775, 0, 600, false⟩] := by
  unfold FromKiosk ProgressLaw
  decide +kernel

theorem witness_TenderPays :
    FromKiosk (pricing 500) 18 .b ∧ (pricing 500).openSale .b = some { sale with tendered := 500 } ∧ sale.number = 3118 ∧
      min (500 + (349 : Half).toNat) 65535 < sale.due ∧ sale.due ≤ min (500 + (350 : Half).toNat) 65535 ∧
      (pricing 500).hc.runState ≠ .standby ∧ (pricing 500).lp.size < 16 ∧
      ∀ x, (pricing 500).openSale .b = some x → x.number ≠ 3117 := by
  refine ⟨by unfold FromKiosk; decide +kernel, by decide +kernel, by decide, by decide, by decide, by decide, by decide, ?_⟩
  intro x h
  cases h
  decide

theorem witness_CancelAndTimeout :
    let holds := fun l => (timedOut 500).setSu { (timedOut 500).su with credits := l }
    let s := holds [⟨41207, 1775, 0, 0, false⟩]
    (s.active = true ∧ s.role = .entry ∧ s.lp.size < 16 ∧ s.openSale .b = some { sale with tendered := 500 } ∧
      (s.su.lane .b).timeout.ranOut = true ∧ creditOf 41207 s.su.credits = some ⟨41207, 1775, 0, 0, false⟩ ∧
      s.su.queued 41207 = false) ∧ FromKiosk (pricing 500) 18 .b ∧
      (pricing 500).su.laneB.queue = s.su.laneB.queue ∧ (pricing 500).openSale .b = s.openSale .b ∧
      creditOf 41207 (holds [⟨41207, 1775, 0, 0, true⟩]).su.credits = some ⟨41207, 1775, 0, 0, true⟩ ∧
      (creditOf 41207 (holds []).su.credits = none ∧ (holds []).su.queued 41207 = false ∧ (holds []).su.credits.length < 32) ∧
      (s.setLane .b { s.su.laneB with queue := [queuedSale 41207 .paid] }).su.queued 41207 = true ∧
      (s.su.lane .b).queue = [] ++ queuedSale 41255 .paid :: [] ∧
      findPaid 3117 (s.su.lane .b).queue = some (queuedSale 41255 .paid) ∧ findPaid 3116 (s.su.lane .b).queue = none ∧
      ∀ y, s.openSale .b = some y → y.number ≠ 3117 ∧ y.number ≠ 3116 := by
  refine ⟨by decide +kernel, by unfold FromKiosk; decide +kernel, by decide +kernel, by decide +kernel, by decide +kernel, by decide +kernel, by decide +kernel,
    by decide +kernel, by decide +kernel, by decide +kernel, ?_⟩
  intro y h
  cases h
  decide

theorem witness_BeaconsJoinAndSyncEnd :
    (beaconing.active = true ∧ beaconing.pt.beacon.ranOut = true ∧ drive.role ≠ .arch ∧ drive.lp.size ≤ 14 ∧
      (holding arch .estop).halted = true) ∧
      (faulty.inReset = false ∧ faulty.hc.runState = .configFault ∧ faulty.cl.faultBeacon.ranOut = true ∧ faulty.lp.size < 16) ∧
      (joining.active = true ∧ joining.pt.join.ranOut = true ∧ joining.hc.runState = .joining ∧
        (holding joining .startup).halted = true ∧ joining.lp.size ≤ 12) ∧
      ((syncTimedOut 3).active = true ∧ (syncTimedOut 3).ts.sync.ranOut = true ∧ (syncTimedOut 3).hc.runState = .syncing) ∧
      ((syncing 3).active = true ∧ (syncing 3).hc.runState = .syncing ∧
        (2 : Origin) ≠ (syncing 3).ownOrigin ∧ (syncing 3).expects 2 = true ∧ (2 : Origin).toNat = (syncing 3).ts.keeper ∧
        (4 : Byte).toNat = (syncing 3).cl.constants.station ∧ (syncing 3).ts.received = (3 : Byte).toNat ∧
        (syncing 3).ts.syncFailed = false ∧ (syncing 2).ts.received ≠ (3 : Byte).toNat) := by decide +kernel

/-- The joiner with a car on either side of the place of ticket 41,305. -/
def joinsBetween : State := (syncing 0).setTrain [car 41300 4000 none, car 41310 3000 (some 420)]

theorem witness_KeeperAndJoiner :
    (drive.inReset = false ∧ (answering 0 0 true).active = true ∧ (answering 0 0 true).keeper = true ∧
      (answering 0 0 true).ts.answerDue = true ∧ (answering 0 0 true).ts.answers = ⟨4, 0, 0⟩ :: [] ∧
      (answering 0 0 true).lp.size ≤ 12 ∧ (answering 0 0 true).before .syncAnswerStep = answering 0 0 true ∧
      (after (.pinLevelChange .eye false) (answering 0 0 false)).ts.answerDue = false) ∧
      (TrainLaw joinsBetween ∧ joinsBetween.ts.train = [car 41300 4000 none] ++ [car 41310 3000 (some 420)] ∧
        joinsBetween.holds 41305 = false ∧ (41305 : Ticket) ∉ joinsBetween.ts.recent ∧
        ticketOlder 41300 41305 = true ∧ ticketOlder 41305 41310 = true ∧
        permittedInterval 5000 1 joinsBetween.ts.train = (3001, 3999) ∧ joinsBetween.ss = [] ∧ joinsBetween.role ≠ .exit ∧
        (after (.syncCar 2 4 41305 4200 420 0 2) joinsBetween).ts.train.map (fun c => (c.ticket, c.front 5000)) =
          [(41300, 4000), (41305, 3999), (41310, 3000)]) ∧
    (drive.active = true ∧ drive.keeper = true ∧ drive.lp.size ≤ 12 ∧
      (nextToSend 0 threeCars.ts.train).isSome = true ∧ nextToSend 41303 threeCars.ts.train = none ∧ drive.ts.answers = [] ∧
      12 < fullPort.size ∧ drive.expects 4 = true ∧ (2 : Byte).toNat = drive.cl.constants.station ∧ drive.hc.runState ≠ .joining ∧
      drive.ts.train = []) ∧
      (oneToHear.active = true ∧ oneToHear.keeper = true ∧ oneToHear.expects 4 = true ∧ oneToHear.hc.runState = .joining ∧
        (∀ r ∈ oneToHear.pt.peers, r.station ≠ (4 : Origin).toNat → r.heard = true) ∧ oneToHear.lp.size + 1 ≤ 12 ∧
        oneToHear.ts.answers = [] ∧
        (after (.syncReq 4 2) oneToHear).lp.waiting.map (fun q => q.frame) = [.syncReq 3, .syncEnd 4 0]) ∧
      TrainLaw (syncing 0) ∧ ((syncing 0).active = true ∧ (syncing 0).hc.runState = .syncing ∧ (2 : Origin) ≠ (syncing 0).ownOrigin ∧
        (syncing 0).expects 2 = true ∧ (2 : Origin).toNat = (syncing 0).ts.keeper ∧
        (4 : Byte).toNat = (syncing 0).cl.constants.station ∧ (41301 : Ticket) ∈ (syncing 0).ts.recent ∧
        (41302 : Ticket) ∉ (syncing 0).ts.recent ∧ (syncing 0).ts.train = [] ∧ (syncing 0).role ≠ .exit ∧ (syncing 0).ss = [] ∧
        haltedArch.halted = true ∧ ∀ ch ∈ haltedArch.ss, ch.state = .suspended) := by
  refine ⟨by decide +kernel, by unfold TrainLaw; decide +kernel, by decide +kernel, by decide +kernel,
    by unfold TrainLaw; decide +kernel, by decide +kernel⟩

set_option maxRecDepth 100000 in
theorem witness_AttemptOutcomes :
    (∃ b₁ b₂ after, attemptBits 2 (.halt 9 1 9) = [] ++ b₁ :: b₂ :: after) ∧
      arbitrationSpan 2 (.halt 9 1 9) < (attemptBits 2 (.halt 9 1 9)).length ∧
      (faultyBetween.hc.runState = .configFault ∧ faultyBetween.cl.faultOrigin ≠ none) ∧
      (sending.inReset = false ∧ sending.hc.runState ≠ .loading ∧ sending.lp.inHand = none ∧
      sending.lp.waiting = ⟨.halt 9 1 9, none⟩ :: [⟨.flow 0 0, none⟩] ∧ sending.lp.waiting ≠ []) ∧
      (attempting 7).lp.inHand = some ⟨.halt 9 1 9, none⟩ ∧ (Frame.halt 9 1 9).single = false ∧
      (∀ q ∈ (attempting 7).lp.waiting, (Frame.halt 9 1 9).partner q.frame = false) ∧ (attempting 7).active = true ∧
      (attempting 7).lp.failures = 7 ∧ (attempting 6).lp.failures ≠ 7 ∧ (attempting 6).lp.size < 16 ∧ (attempting 6).ss = [] ∧
      (holding arch .estop).halted = true ∧ ClaimLaw (attempting 6) ∧ ProgressLaw (attempting 6) ∧ ProgressLaw (attempting 7) ∧
      ClaimLaw sending := by
  refine ⟨⟨_, _, _, rfl⟩, ?_⟩
  unfold ClaimLaw ProgressLaw
  decide +kernel

/-- Nothing is due in the states that the witnesses give to the commands that what is due comes before, so that such a command's
own effect begins in the state itself. -/
theorem witness_nothing_due :
    ∀ s ∈ [State.reset, drive, exit, arch, entry, calling, pricing 0, pricing 1, pricing 500, inState entry .syncing, faultyBetween,
        holding drive .estop, holding drive .skew, holding drive .opPause, holding drive .opHold, readied, inState drive .standby, threeCars, fullTrain,
        drive.setTrain [car 5 16382 none], drive.setTrain [car 5 1 none], haltedArch, oneToHear, syncing 0, syncing 3, sending,
        attempting 6, attempting 7, drive.setLp fullPort, reportedCar, aboutToOpen, serving,
        answering 0 0 false, withLostCars, joinsBetween, (syncing 0).rebase, oneToHear.rebase, withBrush (fun ch => { ch with state := .ready }),
        (holding entry .estop).setPc { entry.pc with v := 0 }, pausedServing, stoppedSale 0, stoppedSale 41207, flagged,
        flagged.setTrain [], flagged.setTrain [car 5 900 none, car 6 100 none], oneCarAtBoth, olderAtFirst, newerAtFirst,
        purgingNormally, after (entryBeacon true) drive, drive.mapPeers (fun r => { r with age := 400 }), entryAtRest] ++ pulsed ++ changing ++ sampling, s.deliverDue = s := by
  decide +kernel

end Sys2Proof.Tests
end

/-! ### Serial order and issue of tickets (R15, R16, R135) -/

namespace Sys2Proof.Machine

open Sys2Proof

/-! #### Serial order -/

/-- R16: older means nonzero tickets whose difference lies from 1 to 32,767. -/
theorem ticketOlder_iff (a b : Ticket) :
    ticketOlder a b = true ↔ a ≠ 0 ∧ b ≠ 0 ∧ 1 ≤ (b - a).toNat ∧ (b - a).toNat ≤ 32767 := by
  simp [ticketOlder, and_assoc]

theorem ticketOlder_eq_false_iff (a b : Ticket) :
    ticketOlder a b = false ↔ ¬ (a ≠ 0 ∧ b ≠ 0 ∧ 1 ≤ (b - a).toNat ∧ (b - a).toNat ≤ 32767) := by
  rw [← ticketOlder_iff, Bool.not_eq_true]

/-- Ticket 0 has no place in the serial order. -/
theorem ticketOlder_zero (a : Ticket) : ticketOlder a 0 = false ∧ ticketOlder 0 a = false := by
  simp [ticketOlder]

/-- The two differences of a pair of tickets make up a full turn. -/
theorem ticket_sub_toNat_rev (a b : Ticket) : (a - b).toNat = (65536 - (b - a).toNat) % 65536 := by
  bv_omega

theorem ticketOlder_of_near {a b : Ticket} (ha : a ≠ 0) (hb : b ≠ 0) (low : 1 ≤ (b - a).toNat)
    (high : (b - a).toNat ≤ 32767) : ticketOlder a b = true ∧ ticketOlder b a = false := by
  refine ⟨(ticketOlder_iff a b).mpr ⟨ha, hb, low, high⟩, (ticketOlder_eq_false_iff b a).mpr ?_⟩
  rintro ⟨-, -, -, far⟩
  have turn := ticket_sub_toNat_rev a b
  omega

/-- Past half a turn the order of the pair is reversed. -/
theorem ticketOlder_of_far {a b : Ticket} (ha : a ≠ 0) (hb : b ≠ 0) (far : 32769 ≤ (b - a).toNat) :
    ticketOlder b a = true ∧ ticketOlder a b = false := by
  have turn := ticket_sub_toNat_rev a b
  have bound := (b - a).isLt
  exact ticketOlder_of_near hb ha (by omega) (by omega)

/-- Equal tickets, and tickets half a turn apart, stand in no order. -/
theorem ticketOlder_of_unordered {a b : Ticket} (apart : (b - a).toNat = 0 ∨ (b - a).toNat = 32768) :
    ticketOlder a b = false ∧ ticketOlder b a = false := by
  have turn := ticket_sub_toNat_rev a b
  refine ⟨(ticketOlder_eq_false_iff a b).mpr ?_, (ticketOlder_eq_false_iff b a).mpr ?_⟩ <;>
    rintro ⟨-, -, low, high⟩ <;> omega

/-! #### The order of issue -/

/-- R15: 1 follows 65,535 and 0. -/
theorem nextTicket_toNat (t : Ticket) : (nextTicket t).toNat = t.toNat % 65535 + 1 := by
  unfold nextTicket
  split <;> bv_omega

theorem nextTicket_ne_zero (t : Ticket) : nextTicket t ≠ 0 := by
  have value := nextTicket_toNat t
  bv_omega

/-- The tickets are issued in a circle of the 65,535 nonzero numbers. -/
theorem nextTicket_iterate_toNat {t : Ticket} (ht : t ≠ 0) (k : Nat) :
    (nextTicket^[k] t).toNat = (t.toNat - 1 + k) % 65535 + 1 := by
  induction k with
  | zero => simp only [Function.iterate_zero, id]; bv_omega
  | succ k ih => rw [Function.iterate_succ_apply', nextTicket_toNat, ih]; omega

theorem nextTicket_iterate_ne_zero {t : Ticket} (ht : t ≠ 0) (k : Nat) : nextTicket^[k] t ≠ 0 := by
  have value := nextTicket_iterate_toNat ht k
  bv_omega

/-- Within one circle no ticket is issued twice. -/
theorem nextTicket_iterate_inj {t : Ticket} (ht : t ≠ 0) {i j : Nat} (hi : i < 65535) (hj : j < 65535)
    (same : nextTicket^[i] t = nextTicket^[j] t) : i = j := by
  have values := congrArg BitVec.toNat same
  rw [nextTicket_iterate_toNat ht, nextTicket_iterate_toNat ht] at values
  omega

theorem nodup_iterate_nextTicket {t : Ticket} (ht : t ≠ 0) {n : Nat} (hn : n ≤ 65535) : (List.iterate nextTicket t n).Nodup := by
  rw [← List.range_map_iterate]
  refine List.nodup_range.map_on fun i hi j hj same => ?_
  rw [List.mem_range] at hi hj
  exact nextTicket_iterate_inj ht (by omega) (by omega) same

/-- The difference of tickets k issues apart, k within one circle: the step past the number 0 counts one more. -/
theorem nextTicket_iterate_sub_toNat {t : Ticket} (ht : t ≠ 0) {k : Nat} (hk : k < 65535) :
    (nextTicket^[k] t - t).toNat = if t.toNat + k ≤ 65535 then k else k + 1 := by
  have value := nextTicket_iterate_toNat ht k
  have positive : t.toNat ≠ 0 := fun h => ht (BitVec.eq_of_toNat_eq h)
  split <;> bv_omega

/-- R16: a ticket issued fewer than 32,767 issues later is newer. -/
theorem ticketOlder_nextTicket_iterate {t : Ticket} (ht : t ≠ 0) {k : Nat} (low : 1 ≤ k) (high : k < 32767) :
    ticketOlder t (nextTicket^[k] t) = true := by
  have difference := nextTicket_iterate_sub_toNat ht (show k < 65535 by omega)
  refine (ticketOlder_iff _ _).mpr ⟨ht, nextTicket_iterate_ne_zero ht k, ?_⟩
  split at difference <;> omega

/-! #### The search for a free ticket -/

theorem SalesUnit.passedOver_eq_false_iff (u : SalesUnit) (t : Ticket) :
    u.passedOver t = false ↔ u.queued t = false ∧ ∀ e ∈ u.credits, e.ticket = t → e.isOpen = false := by
  simp [SalesUnit.passedOver]

theorem SalesUnit.passedOver_mem_tickets {u : SalesUnit} {t : Ticket} (h : u.passedOver t = true) : t ∈ u.tickets := by
  simp only [SalesUnit.passedOver, SalesUnit.queued, Bool.or_eq_true, List.any_eq_true, Bool.and_eq_true, beq_iff_eq] at h
  simp only [SalesUnit.tickets, List.mem_append, List.mem_map]
  rcases h with (h | h) | ⟨e, member, same, -⟩
  · exact .inl (.inl h)
  · exact .inl (.inr h)
  · exact .inr ⟨e, member, same⟩

theorem SalesUnit.tickets_length (u : SalesUnit) : u.tickets.length = u.searchBound := by
  simp [SalesUnit.tickets, SalesUnit.searchBound, Nat.add_assoc]

/-- A free first candidate is the one found. -/
theorem SalesUnit.findTicket_of_free {u : SalesUnit} {t : Ticket} (free : u.passedOver t = false) (n : Nat) :
    u.findTicket n t = t := by
  cases n with
  | zero => rfl
  | succ n => simp [SalesUnit.findTicket, free]

theorem SalesUnit.findTicket_ne_zero (u : SalesUnit) (n : Nat) {t : Ticket} (ht : t ≠ 0) : u.findTicket n t ≠ 0 := by
  induction n generalizing t with
  | zero => exact ht
  | succ n ih =>
    unfold SalesUnit.findTicket
    split
    · exact ih (nextTicket_ne_zero t)
    · exact ht

/-- The search ends at a free ticket, unless it and every candidate before it are passed over. -/
theorem SalesUnit.findTicket_free_or (u : SalesUnit) (n : Nat) (t : Ticket) :
    u.passedOver (u.findTicket n t) = false ∨ ∀ i ≤ n, u.passedOver (nextTicket^[i] t) = true := by
  induction n generalizing t with
  | zero =>
    cases h : u.passedOver t with
    | false => exact .inl h
    | true => exact .inr fun i hi => by rwa [Nat.le_zero.mp hi]
  | succ n ih =>
    cases h : u.passedOver t with
    | false => exact .inl (by rwa [u.findTicket_of_free h])
    | true =>
      have skip : u.findTicket (n + 1) t = u.findTicket n (nextTicket t) := by simp [SalesUnit.findTicket, h]
      rw [skip]
      refine (ih (nextTicket t)).imp_right fun all i hi => ?_
      cases i with
      | zero => exact h
      | succ i => exact all i (by omega)

/-- One candidate more than the tickets in use cannot all be passed over. -/
theorem SalesUnit.exists_free {u : SalesUnit} {t : Ticket} (ht : t ≠ 0) (small : u.searchBound < 65535) :
    ∃ i ≤ u.searchBound, u.passedOver (nextTicket^[i] t) = false := by
  by_contra! none_free
  have used : List.iterate nextTicket t (u.searchBound + 1) ⊆ u.tickets := by
    intro c hc
    obtain ⟨i, hi, rfl⟩ := List.mem_iterate.mp hc
    exact SalesUnit.passedOver_mem_tickets (by simpa using none_free i (by omega))
  have crowded := ((nodup_iterate_nextTicket ht small).subperm used).length_le
  rw [u.tickets_length, List.length_iterate] at crowded
  omega

/-- The bound of the search is enough wherever it is shorter than the circle of tickets. -/
theorem SalesUnit.findTicket_free {u : SalesUnit} {t : Ticket} (ht : t ≠ 0) (small : u.searchBound < 65535) :
    u.passedOver (u.findTicket u.searchBound t) = false := by
  refine (u.findTicket_free_or u.searchBound t).resolve_right fun all => ?_
  obtain ⟨i, hi, free⟩ := SalesUnit.exists_free ht small
  simp [all i hi] at free

theorem SalesLaw.searchBound_le {u : SalesUnit} (law : SalesLaw u) : u.searchBound ≤ 40 := by
  obtain ⟨credits, -, laneA, laneB, -⟩ := law
  unfold SalesUnit.searchBound
  omega

theorem mem_removeCredit {t : Ticket} {l : List Credit} {e : Credit} : e ∈ removeCredit t l ↔ e ∈ l ∧ e.ticket ≠ t := by
  simp [removeCredit]

/-- R135: under SU's law the ticket issued is free. -/
theorem SalesUnit.issue_free {u : SalesUnit} (law : SalesLaw u) : u.passedOver u.issue.1 = false :=
  SalesUnit.findTicket_free (nextTicket_ne_zero _) (by have := law.searchBound_le; omega)

/-- Settles O27: the order from the two differences of a pair, the issue by counting the tickets in use against the candidates. -/
theorem ticketsOrderedAndIssued : Obligations.TicketsOrderedAndIssued := by
  refine ⟨⟨fun a b ha hb => ⟨ticketOlder_of_near ha hb, ticketOlder_of_far ha hb, ticketOlder_of_unordered⟩,
    ticketOlder_zero, by decide, by decide, fun a k ha => ticketOlder_nextTicket_iterate ha⟩, fun u law => ?_⟩
  obtain ⟨notQueued, notOpen⟩ := (u.passedOver_eq_false_iff u.issue.1).mp (SalesUnit.issue_free law)
  exact ⟨u.findTicket_ne_zero _ (nextTicket_ne_zero _), notQueued, notOpen, rfl,
    fun e he => (mem_removeCredit.mp he).2, fun e he other => mem_removeCredit.mpr ⟨he, other⟩,
    fun queue table => SalesUnit.findTicket_of_free ((u.passedOver_eq_false_iff _).mpr ⟨queue, table⟩) _⟩

/-! ### Front and rear positions (R10, R11, R12) -/

theorem Car.front_le (c : Car) (p : Pulse) : c.front p ≤ 16383 := Nat.min_le_right _ _

/-- R12: the mark that a rule sets gives back the front, clamped. -/
theorem frontAt_markAt (p : Pulse) (x : Nat) : frontAt p (markAt p x) = min x 16383 := by
  have back : p - markAt p x = BitVec.ofNat 24 (min x 16383) := sub_sub_cancel p _
  rw [frontAt, back, BitVec.toNat_ofNat, Config.frontMax]
  omega

theorem Car.front_setFront (c : Car) (p : Pulse) (x : Nat) : (c.setFront p x).front p = min x 16383 := frontAt_markAt p x

/-- R10: a front that is not held back by the clamp counts the pulse. -/
theorem Car.front_succ (c : Car) (p : Pulse) (h : (p - c.mark).toNat ≤ 16383) :
    c.front (p + 1) = min (c.front p + 1) 16383 := by
  have counted : (p + 1 - c.mark).toNat = (p - c.mark).toNat + 1 := by bv_omega
  simp only [Car.front, frontAt, counted, Config.frontMax]
  omega

theorem Car.rear_of_length {c : Car} {n : Nat} (h : c.length = some n) (p : Pulse) (lmax : Nat) :
    c.rear p lmax = (c.front p : Int) - n := by
  simp [Car.rear, Car.span, h]

theorem Car.rear_of_absent {c : Car} (h : c.length = none) (p : Pulse) (lmax : Nat) :
    c.rear p lmax = (c.front p : Int) - lmax := by
  simp [Car.rear, Car.span, h]

/-- R11: the bounds of the rear, for a car that counts with a length from 1 to 1,023. -/
theorem Car.front_sub_bounds (c : Car) (p : Pulse) {n : Nat} (low : 1 ≤ n) (high : n ≤ 1023) :
    -1023 ≤ (c.front p : Int) - n ∧ (c.front p : Int) - n ≤ 16382 := by
  have := c.front_le p
  omega

/-- Settles O30: the rear is the front less the span, so its bounds are those of the front and of the length. -/
theorem frontAndRear : Obligations.FrontAndRear := by
  intro c p x lmax
  refine ⟨c.front_setFront p x, c.front_le p, c.front_succ p, fun n known => ?_, fun absent => ?_⟩
  · rw [Car.rear_of_length known]
    exact ⟨rfl, fun full => by rw [full]; rfl, c.front_sub_bounds p⟩
  · rw [Car.rear_of_absent absent]
    refine ⟨rfl, fun full => by rw [full]; rfl, c.front_sub_bounds p, fun n _ => ?_⟩
    have same : ({ c with length := some n } : Car).front p = c.front p := rfl
    rw [Car.rear_of_length rfl, same]
    omega

end Sys2Proof.Machine

/-! ### The view and its grade (R89) -/

namespace Sys2Proof.Machine

open Sys2Proof

/-! #### The union -/

@[simp] theorem hasCause_or (x y : CauseSet) (k : Cause) : hasCause (x ||| y) k = (hasCause x k || hasCause y k) :=
  BitVec.getLsbD_or

/-- A set to which the sets of records are joined holds what it held and what any record holds. -/
theorem hasCause_foldl_causes (k : Cause) (peers : List Peer) (x : CauseSet) :
    hasCause (peers.foldl (fun y r => y ||| r.causes) x) k = true ↔
      hasCause x k = true ∨ ∃ r ∈ peers, hasCause r.causes k = true := by
  induction peers generalizing x with
  | nil => simp
  | cons r rest ih => simp [ih, or_assoc]

theorem State.hasCause_view (s : State) (k : Cause) :
    hasCause s.view k = true ↔ s.owns k = true ∨ ∃ r ∈ s.pt.peers, hasCause r.causes k = true :=
  hasCause_foldl_causes k s.pt.peers s.hc.own

/-! #### The grade of a set -/

theorem mem_allCauses (k : Cause) : k ∈ allCauses := by
  cases k <;> decide

theorem hasGrade_iff (x : CauseSet) (g : Grade) : hasGrade x g = true ↔ ∃ k : Cause, k.grade = g ∧ hasCause x k = true := by
  simp [hasGrade, mem_allCauses]

theorem hasGrade_eq_false_iff (x : CauseSet) (g : Grade) :
    hasGrade x g = false ↔ ∀ k : Cause, hasCause x k = true → k.grade ≠ g := by
  rw [← Bool.not_eq_true, hasGrade_iff]
  exact ⟨fun no k held same => no ⟨k, same, held⟩, fun all ⟨k, same, held⟩ => all k held same⟩

theorem gradeOf_eq_halt_iff (x : CauseSet) : gradeOf x = some .halt ↔ hasGrade x .halt = true := by
  unfold gradeOf
  split_ifs <;> simp_all

theorem gradeOf_eq_pause_iff (x : CauseSet) :
    gradeOf x = some .pause ↔ hasGrade x .pause = true ∧ hasGrade x .halt = false := by
  unfold gradeOf
  split_ifs <;> simp_all

theorem gradeOf_eq_hold_iff (x : CauseSet) :
    gradeOf x = some .hold ↔ hasGrade x .hold = true ∧ hasGrade x .halt = false ∧ hasGrade x .pause = false := by
  unfold gradeOf
  split_ifs <;> simp_all

theorem gradeOf_eq_none_iff (x : CauseSet) : gradeOf x = none ↔ ∀ g : Grade, hasGrade x g = false := by
  constructor
  · intro noGrade g
    unfold gradeOf at noGrade
    cases g <;> split_ifs at noGrade <;> simp_all
  · intro all
    simp [gradeOf, all]

/-- A grade that is neither H nor P is D. -/
theorem Grade.eq_hold_iff (g : Grade) : g = .hold ↔ g ≠ .halt ∧ g ≠ .pause := by
  cases g <;> decide

/-- A set has grade D when it is not empty and each of its causes has grade D. -/
theorem gradeOf_eq_hold_iff_causes (x : CauseSet) :
    gradeOf x = some .hold ↔
      (∃ k : Cause, hasCause x k = true) ∧ ∀ k : Cause, hasCause x k = true → k.grade = .hold := by
  rw [gradeOf_eq_hold_iff, hasGrade_iff, hasGrade_eq_false_iff, hasGrade_eq_false_iff]
  constructor
  · rintro ⟨⟨k, -, held⟩, noHalt, noPause⟩
    exact ⟨⟨k, held⟩, fun k' held' => (Grade.eq_hold_iff _).mpr ⟨noHalt k' held', noPause k' held'⟩⟩
  · rintro ⟨⟨k, held⟩, all⟩
    exact ⟨⟨k, all k held, held⟩, fun k' held' => ((Grade.eq_hold_iff _).mp (all k' held')).1,
      fun k' held' => ((Grade.eq_hold_iff _).mp (all k' held')).2⟩

/-- A set has no grade exactly when it is empty. -/
theorem gradeOf_eq_none_iff_causes (x : CauseSet) : gradeOf x = none ↔ ∀ k : Cause, hasCause x k = false := by
  simp only [gradeOf_eq_none_iff, hasGrade_eq_false_iff]
  exact ⟨fun all k => Bool.eq_false_iff.mpr fun held => all k.grade k held rfl,
    fun empty _ k held => absurd held (Bool.eq_false_iff.mp (empty k))⟩

/-! #### The current rank of a set -/

/-- The causes stand in the order of their ranks, so the first that a test finds is the lowest that passes it. -/
theorem rank_le_of_find_allCauses {p : Cause → Bool} {c k : Cause} (found : allCauses.find? p = some c) (hk : p k = true) :
    c.rank ≤ k.rank := by
  obtain ⟨-, before, after, split, fails⟩ := List.find?_eq_some_iff_append.mp found
  have sorted : allCauses.Pairwise (fun a b => a.rank ≤ b.rank) := by decide
  have place := mem_allCauses k
  rw [split] at sorted place
  rcases List.mem_append.mp place with early | late
  · exact absurd hk (by simpa using fails k early)
  · rcases List.mem_cons.mp late with rfl | later
    · exact le_rfl
    · exact List.rel_of_pairwise_cons (List.pairwise_append.mp sorted).2.1 later

theorem currentRank_of_find {x : CauseSet} {c : Cause} (found : allCauses.find? (hasCause x) = some c) :
    currentRank x = c.rank := by
  simp [currentRank, found]

/-- A cause of the set is the current one or stands behind the current one, which is in the set itself. -/
theorem currentRank_spec {x : CauseSet} {k : Cause} (held : hasCause x k = true) :
    ∃ c : Cause, hasCause x c = true ∧ c.rank = currentRank x ∧ c.rank ≤ k.rank := by
  have finds : (allCauses.find? (hasCause x)).isSome = true := List.find?_isSome.mpr ⟨k, mem_allCauses k, held⟩
  obtain ⟨c, found⟩ := Option.isSome_iff_exists.mp finds
  exact ⟨c, List.find?_some found, (currentRank_of_find found).symm, rank_le_of_find_allCauses found held⟩

theorem currentRank_of_empty {x : CauseSet} (empty : ∀ k : Cause, hasCause x k = false) : currentRank x = 0 := by
  have fails : allCauses.find? (hasCause x) = none := List.find?_eq_none.mpr fun k _ => by simp [empty k]
  simp [currentRank, fails]

/-- Settles O15: membership by joining the records one by one, the grades from the tests of the three grades, the current rank
from the order of the causes. -/
theorem viewIsUnion : Obligations.ViewIsUnion := by
  intro s
  refine ⟨s.hasCause_view, ?halt, ?pause, gradeOf_eq_hold_iff_causes s.view, gradeOf_eq_none_iff_causes s.view, ?lowest,
    ?member, currentRank_of_empty, fun _ => rfl, _, _, _, rfl⟩
  case halt => exact (gradeOf_eq_halt_iff s.view).trans (hasGrade_iff s.view .halt)
  case pause =>
    exact (gradeOf_eq_pause_iff s.view).trans
      (and_congr (hasGrade_iff s.view .pause) (hasGrade_eq_false_iff s.view .halt))
  case lowest =>
    intro k held
    obtain ⟨c, -, current, least⟩ := currentRank_spec held
    exact current ▸ least
  case member =>
    intro k held
    obtain ⟨c, member, current, -⟩ := currentRank_spec held
    exact ⟨c, member, current⟩

end Sys2Proof.Machine

/-! ### The price computation (R116 to R126) -/

namespace Sys2Proof.Machine

open Sys2Proof

/-! #### The discount -/

theorem discountOf_mul_le (subtotal percent : Nat) : discountOf subtotal percent * 100 ≤ subtotal * percent :=
  Nat.div_mul_le_self _ _

theorem lt_discountOf_mul_add (subtotal percent : Nat) :
    subtotal * percent < discountOf subtotal percent * 100 + 100 :=
  Nat.lt_div_mul_add (by decide)

theorem discountOf_zero (subtotal : Nat) : discountOf subtotal 0 = 0 := Nat.zero_div _

/-- R121: no tier discounts more than half the subtotal. -/
theorem discountOf_le_half (subtotal : Nat) {percent : Nat} (h : percent ≤ 50) :
    discountOf subtotal percent ≤ subtotal / 2 := by
  have floor := discountOf_mul_le subtotal percent
  have most : subtotal * percent ≤ subtotal * 50 := Nat.mul_le_mul_left _ h
  omega

/-! #### Rounding -/

/-- A price rounded up to a multiple of the unit, before the ceiling is applied (R122). -/
def roundedUp (n u : Nat) : Nat := (n + u - 1) / u * u

/-- The rounded price is the least multiple of the unit that is no less. -/
theorem roundedUp_le_of_dvd {n u m : Nat} (hu : 0 < u) (multiple : u ∣ m) (le : n ≤ m) : roundedUp n u ≤ m := by
  obtain ⟨q, rfl⟩ := multiple
  have fits : (n + u - 1) / u < q + 1 := (Nat.div_lt_iff_lt_mul hu).mpr (by rw [Nat.succ_mul, Nat.mul_comm q]; omega)
  exact Nat.mul_comm u q ▸ Nat.mul_le_mul_right u (Nat.lt_succ_iff.mp fits)

theorem le_roundedUp (n : Nat) {u : Nat} (hu : 0 < u) : n ≤ roundedUp n u := by
  have := Nat.lt_div_mul_add (a := n + u - 1) hu
  unfold roundedUp
  omega

theorem roundedUp_lt_add (n : Nat) {u : Nat} (hu : 0 < u) : roundedUp n u < n + u := by
  have := Nat.div_mul_le_self (n + u - 1) u
  unfold roundedUp
  omega

theorem roundedUp_eq_self {n u : Nat} (hu : 0 < u) (multiple : u ∣ n) : roundedUp n u = n :=
  le_antisymm (roundedUp_le_of_dvd hu multiple le_rfl) (le_roundedUp n hu)

theorem priceCeiling_le (u : Nat) : priceCeiling u ≤ 65535 := Nat.div_mul_le_self _ _

theorem dvd_priceCeiling (u : Nat) : u ∣ priceCeiling u := Nat.dvd_mul_left _ _

/-- R116: the ceiling is the greatest multiple of the unit within 65,535. -/
theorem le_priceCeiling {u m : Nat} (multiple : u ∣ m) (le : m ≤ 65535) : m ≤ priceCeiling u :=
  calc m = m / u * u := (Nat.div_mul_cancel multiple).symm
    _ ≤ priceCeiling u := Nat.mul_le_mul_right u (Nat.div_le_div_right le)

theorem lt_priceCeiling_add {u : Nat} (hu : 0 < u) : 65535 < priceCeiling u + u := Nat.lt_div_mul_add hu

/-- A price that would be rounded past 65,535 stands above the ceiling. -/
theorem priceCeiling_lt_of_roundedUp {n u : Nat} (hu : 0 < u) (past : 65535 < roundedUp n u) : priceCeiling u < n := by
  by_contra! below
  have := roundedUp_le_of_dvd hu (dvd_priceCeiling u) below
  have := priceCeiling_le u
  omega

theorem netOf_of_fits {n u : Nat} (fits : roundedUp n u ≤ 65535) : netOf n u = roundedUp n u :=
  if_neg (Nat.not_lt.mpr fits)

theorem netOf_of_past {n u : Nat} (past : 65535 < roundedUp n u) : netOf n u = priceCeiling u := if_pos past

theorem dvd_netOf (n u : Nat) : u ∣ netOf n u := by
  rcases Nat.lt_or_ge 65535 (roundedUp n u) with past | fits
  · exact netOf_of_past past ▸ dvd_priceCeiling u
  · exact netOf_of_fits fits ▸ Nat.dvd_mul_left _ _

theorem netOf_le (n u : Nat) : netOf n u ≤ 65535 := by
  rcases Nat.lt_or_ge 65535 (roundedUp n u) with past | fits
  · exact netOf_of_past past ▸ priceCeiling_le u
  · exact netOf_of_fits fits ▸ fits

theorem netOf_eq_self {n u : Nat} (hu : 0 < u) (multiple : u ∣ n) (le : n ≤ 65535) : netOf n u = n := by
  have same := roundedUp_eq_self hu multiple
  rw [netOf_of_fits (same.trans_le le), same]

/-! #### The offer check and the retained add-ons -/

theorem Catalogue.allows_iff (k : Catalogue) (plan n : Nat) :
    k.allows plan n = true ↔ ∃ a, k.addOn n = some a ∧ a.allowed.getLsbD plan = true := by
  unfold Catalogue.allows
  cases k.addOn n <;> simp

/-- R118: the three conditions of an offer. -/
theorem Catalogue.offers_iff (k : Catalogue) (plan : Nat) (addOns : Byte) (tier : Nat) :
    k.offers plan addOns tier = true ↔ (∃ pl, k.plan plan = some pl) ∧ tier ≤ 3 ∧
      ∀ n ∈ addOnNumbers addOns, ∃ a, k.addOn n = some a ∧ a.allowed.getLsbD plan = true := by
  simp only [Catalogue.offers, Bool.and_eq_true, decide_eq_true_eq, List.all_eq_true, Catalogue.allows_iff,
    Option.isSome_iff_exists, and_assoc]

theorem Catalogue.mem_retained {k : Catalogue} {pl : Plan} {addOns : Byte} {a : AddOn} :
    a ∈ k.retained pl addOns ↔
      (∃ n ∈ addOnNumbers addOns, k.addOn n = some a) ∧ containedIn a.services pl.included = false := by
  simp [Catalogue.retained]

/-- A set contained in another has no member that the other has not. -/
theorem getLsbD_of_containedIn {x y : ServiceSet} (inside : containedIn x y = true) {i : Nat}
    (member : x.getLsbD i = true) : y.getLsbD i = true := by
  have none_left : (x &&& ~~~ y).getLsbD i = false := by rw [eq_of_beq inside]; exact BitVec.getLsbD_zero
  have within := BitVec.lt_of_getLsbD member
  simpa [member, within] using none_left

theorem getLsbD_foldl_services (i : Nat) (l : List AddOn) (x : ServiceSet) :
    (l.foldl (fun y a => y ||| a.services) x).getLsbD i = true ↔
      x.getLsbD i = true ∨ ∃ a ∈ l, a.services.getLsbD i = true := by
  induction l generalizing x with
  | nil => simp
  | cons a rest ih => simp [ih, or_assoc]

/-! #### The credit stage -/

/-- R123: without a credit ticket nothing is applied. -/
theorem appliedCredit_zero (net : Nat) (l : List Credit) : appliedCredit 0 net l = some 0 := rfl

theorem appliedCredit_of_ne_zero {credit : Ticket} (named : credit ≠ 0) (net : Nat) (l : List Credit) :
    appliedCredit credit net l =
      (creditOf credit l).bind fun e => if e.isOpen then none else some (min e.amount net) := by
  unfold appliedCredit
  rw [if_neg named]
  cases creditOf credit l <;> rfl

theorem creditOf_mem {t : Ticket} {l : List Credit} {e : Credit} (found : creditOf t l = some e) : e ∈ l ∧ e.ticket = t :=
  ⟨List.mem_of_find?_eq_some found, by simpa using List.find?_some found⟩

theorem exists_creditOf {t : Ticket} {l : List Credit} (entry : ∃ e ∈ l, e.ticket = t) : ∃ e, creditOf t l = some e := by
  simpa [← Option.isSome_iff_exists, creditOf] using entry

/-- R123: the applied credit comes from a REDEEMABLE entry of the ticket. -/
theorem exists_redeemable_of_appliedCredit {credit : Ticket} {net applied : Nat} {l : List Credit} (named : credit ≠ 0)
    (h : appliedCredit credit net l = some applied) :
    ∃ e ∈ l, e.ticket = credit ∧ e.isOpen = false ∧ applied = min e.amount net := by
  rw [appliedCredit_of_ne_zero named] at h
  obtain ⟨e, found, taken⟩ := Option.bind_eq_some_iff.mp h
  obtain ⟨member, ticket⟩ := creditOf_mem found
  split_ifs at taken with isOpen
  exact ⟨e, member, ticket, by simpa using isOpen, (Option.some.inj taken).symm⟩

theorem appliedCredit_le {credit : Ticket} {net applied : Nat} {l : List Credit}
    (h : appliedCredit credit net l = some applied) : applied ≤ net := by
  by_cases named : credit = 0
  · subst named
    exact Option.some.inj (appliedCredit_zero net l ▸ h) ▸ Nat.zero_le net
  · obtain ⟨e, -, -, -, rfl⟩ := exists_redeemable_of_appliedCredit named h
    exact Nat.min_le_right _ _

/-- NO_CREDIT (R123): every entry of the ticket is OPEN, or it has none. -/
theorem appliedCredit_eq_none {credit : Ticket} {l : List Credit} (named : credit ≠ 0)
    (allOpen : ∀ e ∈ l, e.ticket = credit → e.isOpen = true) (net : Nat) : appliedCredit credit net l = none := by
  rw [Option.eq_none_iff_forall_ne_some]
  intro applied h
  obtain ⟨e, member, ticket, redeemable, -⟩ := exists_redeemable_of_appliedCredit named h
  simp [allOpen e member ticket] at redeemable

theorem exists_appliedCredit {credit : Ticket} {l : List Credit}
    (h : credit = 0 ∨ ((∃ e ∈ l, e.ticket = credit) ∧ ∀ e ∈ l, e.ticket = credit → e.isOpen = false)) (net : Nat) :
    ∃ applied, appliedCredit credit net l = some applied := by
  by_cases named : credit = 0
  · exact ⟨0, named ▸ appliedCredit_zero net l⟩
  · obtain ⟨entry, redeemable⟩ := h.resolve_left named
    obtain ⟨e, found⟩ := exists_creditOf entry
    obtain ⟨member, ticket⟩ := creditOf_mem found
    exact ⟨min e.amount net, by simp [appliedCredit_of_ne_zero named, found, redeemable e member ticket]⟩

/-! #### The figures of an offered choice -/

/-- The subtotal of a choice: the plan with its retained add-ons (R119, R120). -/
def Catalogue.subtotalFor (k : Catalogue) (pl : Plan) (addOns : Byte) : Nat := subtotalOf pl (k.retained pl addOns)

/-- The net price of a choice at a tier (R121, R122). -/
def Catalogue.netFor (k : Catalogue) (pl : Plan) (addOns : Byte) (tier : Nat) : Nat :=
  netOf (k.subtotalFor pl addOns - discountOf (k.subtotalFor pl addOns) (k.tiers.getD tier 0)) k.rounding

/-- The services of a choice: the plan's and those of its retained add-ons (R119). -/
def Catalogue.servicesFor (k : Catalogue) (pl : Plan) (addOns : Byte) : ServiceSet :=
  (k.retained pl addOns).foldl (fun x a => x ||| a.services) pl.included

/-- R119, R120: the add-ons that bring a service the plan has not are those whose price counts. -/
theorem Catalogue.subtotalFor_eq (k : Catalogue) (pl : Plan) (addOns : Byte) :
    k.subtotalFor pl addOns = min 65535 (pl.price + ((((addOnNumbers addOns).filterMap k.addOn).filter
      (fun a => a.services &&& ~~~ pl.included != 0)).map (fun a => a.price)).sum) := Nat.min_comm _ _

theorem Catalogue.subtotalFor_le (k : Catalogue) (pl : Plan) (addOns : Byte) : k.subtotalFor pl addOns ≤ 65535 :=
  Nat.min_le_right _ _

/-- A dropped add-on brings nothing, so the services are those of every add-on named. -/
theorem Catalogue.getLsbD_servicesFor (k : Catalogue) (pl : Plan) (addOns : Byte) (i : Nat) :
    (k.servicesFor pl addOns).getLsbD i = true ↔ pl.included.getLsbD i = true ∨
      ∃ n ∈ addOnNumbers addOns, ∃ a, k.addOn n = some a ∧ a.services.getLsbD i = true := by
  rw [Catalogue.servicesFor, getLsbD_foldl_services]
  constructor
  · rintro (included | ⟨a, kept, brings⟩)
    · exact .inl included
    · obtain ⟨⟨n, named, slot⟩, -⟩ := Catalogue.mem_retained.mp kept
      exact .inr ⟨n, named, a, slot, brings⟩
  · rintro (included | ⟨n, named, a, slot, brings⟩)
    · exact .inl included
    · cases dropped : containedIn a.services pl.included with
      | true => exact .inl (getLsbD_of_containedIn dropped brings)
      | false => exact .inr ⟨a, Catalogue.mem_retained.mpr ⟨⟨n, named, slot⟩, dropped⟩, brings⟩

/-! #### The three results -/

section
variable {k : Catalogue} {plan : Nat} {addOns : Byte} {tier : Nat} {credit : Ticket} {l : List Credit} {pl : Plan}

theorem Catalogue.price_of_not_offers (refused : k.offers plan addOns tier = false) :
    k.price plan addOns tier credit l = Price.notOffered := by
  unfold Catalogue.price
  cases k.plan plan <;> simp [refused]

theorem Catalogue.price_of_noCredit (slot : k.plan plan = some pl) (offered : k.offers plan addOns tier = true)
    (refused : appliedCredit credit (k.netFor pl addOns tier) l = none) :
    k.price plan addOns tier credit l = ⟨.noCredit, k.subtotalFor pl addOns, k.netFor pl addOns tier, 0,
      k.netFor pl addOns tier, k.servicesFor pl addOns, pl.intensity⟩ := by
  simp only [Catalogue.netFor, Catalogue.subtotalFor] at refused ⊢
  simp only [Catalogue.price, slot, offered, if_true, refused, Catalogue.servicesFor]

theorem Catalogue.price_of_applied (slot : k.plan plan = some pl) (offered : k.offers plan addOns tier = true)
    {applied : Nat} (credited : appliedCredit credit (k.netFor pl addOns tier) l = some applied) :
    k.price plan addOns tier credit l = ⟨.quoted, k.subtotalFor pl addOns, k.netFor pl addOns tier, applied,
      k.netFor pl addOns tier - applied, k.servicesFor pl addOns, pl.intensity⟩ := by
  simp only [Catalogue.netFor, Catalogue.subtotalFor] at credited ⊢
  simp only [Catalogue.price, slot, offered, if_true, credited, Catalogue.servicesFor]

/-- A QUOTED price is that of an offered choice whose credit stage passed. -/
theorem Catalogue.exists_applied_of_quoted (h : (k.price plan addOns tier credit l).result = .quoted) :
    ∃ pl applied, k.plan plan = some pl ∧ k.offers plan addOns tier = true ∧
      appliedCredit credit (k.netFor pl addOns tier) l = some applied := by
  cases offered : k.offers plan addOns tier with
  | false =>
    rw [Catalogue.price_of_not_offers offered] at h
    cases h
  | true =>
    obtain ⟨⟨pl, slot⟩, -⟩ := (k.offers_iff plan addOns tier).mp offered
    cases stage : appliedCredit credit (k.netFor pl addOns tier) l with
    | none =>
      rw [Catalogue.price_of_noCredit slot offered stage] at h
      cases h
    | some applied => exact ⟨pl, applied, slot, rfl, stage⟩

/-- R118: each of the three ways in which a choice is not offered. -/
theorem Catalogue.offers_eq_false (h : k.plan plan = none ∨ 3 < tier ∨
    (∃ n ∈ addOnNumbers addOns, ∀ a, k.addOn n = some a → a.allowed.getLsbD plan = false)) :
    k.offers plan addOns tier = false := by
  rw [← Bool.not_eq_true, Catalogue.offers_iff]
  rintro ⟨⟨pl, slot⟩, low, allowed⟩
  rcases h with empty | high | ⟨n, named, refused⟩
  · simp [empty] at slot
  · omega
  · obtain ⟨a, filled, allows⟩ := allowed n named
    simp [refused a filled] at allows

end

/-- Settles O28: the rounded price as the least multiple of the unit, the price ceiling as the greatest within 65,535, and one
equation for each result of the price computation. -/
theorem priceComputation : Obligations.PriceComputation := by
  refine ⟨⟨?discount, ?net, ?results, ?rounding⟩, ?quoted⟩
  case discount =>
    intro subtotal percent low tier
    exact ⟨rfl, discountOf_mul_le _ _, lt_discountOf_mul_add _ _, discountOf_le_half _ tier,
      (Nat.sub_le _ _).trans low, discountOf_zero _⟩
  case net =>
    intro k plan addOns tier credit l quoted
    obtain ⟨pl, applied, slot, offered, stage⟩ := Catalogue.exists_applied_of_quoted quoted
    rw [Catalogue.price_of_applied slot offered stage]
    exact ⟨k.subtotalFor_le pl addOns, rfl⟩
  case results =>
    intro k plan addOns tier credit l
    refine ⟨fun refused => ?_, fun pl slot low allowed => ?_⟩
    · rw [Catalogue.price_of_not_offers (Catalogue.offers_eq_false refused)]
      exact ⟨rfl, rfl, rfl, rfl⟩
    · have offered := (k.offers_iff plan addOns tier).mpr ⟨⟨pl, slot⟩, low, allowed⟩
      refine ⟨fun named allOpen => ?_, fun redeemable => ?_⟩
      · rw [Catalogue.price_of_noCredit slot offered (appliedCredit_eq_none named allOpen _)]
        exact ⟨rfl, rfl, k.subtotalFor_eq pl addOns, rfl⟩
      · obtain ⟨applied, stage⟩ := exists_appliedCredit redeemable (k.netFor pl addOns tier)
        exact congrArg Price.result (Catalogue.price_of_applied slot offered stage)
  case rounding =>
    intro n u le unit
    have hu : 0 < u := by
      simp only [List.mem_cons, List.not_mem_nil, or_false] at unit
      omega
    refine ⟨dvd_netOf n u, netOf_le n u, fun fits => ?_, fun past => ?_, fun multiple => netOf_eq_self hu multiple le,
      netOf_eq_self hu (Nat.dvd_zero u) (Nat.zero_le _), by decide⟩
    · rw [netOf_of_fits fits]
      exact ⟨rfl, le_roundedUp n hu, roundedUp_lt_add n hu⟩
    · rw [netOf_of_past past]
      exact ⟨fun m => le_priceCeiling, priceCeiling_lt_of_roundedUp hu past, le.trans_lt (lt_priceCeiling_add hu)⟩
  case quoted =>
    intro k plan addOns tier credit l quoted
    obtain ⟨pl, applied, slot, offered, stage⟩ := Catalogue.exists_applied_of_quoted quoted
    obtain ⟨-, low, allowed⟩ := (k.offers_iff plan addOns tier).mp offered
    rw [Catalogue.price_of_applied slot offered stage]
    refine ⟨pl, slot, allowed, low, Nat.sub_add_cancel (appliedCredit_le stage), fun unnamed => ?_,
      fun named => exists_redeemable_of_appliedCredit named stage, rfl, k.subtotalFor_eq pl addOns,
      k.getLsbD_servicesFor pl addOns⟩
    subst unnamed
    exact (Option.some.inj stage).symm

end Sys2Proof.Machine
